-- ==== Sys2Proof/Word.lean ====
section
/-! DEFINITION. The word types of the core (R5, R9, R14): bytes of the bus, 16-bit operands and colours,
32-bit host registers, 7-bit register offsets. -/

namespace Sys2Proof

/-- One byte: what a transaction carries, what the source memory and the glyph ROM hold (R41, R44, R49). -/
abbrev Byte := BitVec 8

/-- A 16-bit operand or colour (R5, R7). -/
abbrev Half := BitVec 16

/-- A 32-bit host register value or command word (R14, R69). -/
abbrev Word := BitVec 32

/-- A byte offset within the core's 128-byte register space (R14). -/
abbrev Offset := BitVec 7

end Sys2Proof
end

