-- ==== Sys2Proof/Syntax.lean ====
section
/-! DEFINITION. The commands of `SLDC-1`: one constructor per row of spec/opcode_table.json (R74). A command's
operands stand in the argument registers (R77), so the only operand inside the word is the overlay flag (R72). -/

namespace Sys2Proof

/-- A command of the core (R74). `ov` is bit 9 of the word: overlay mode of the text commands (R72, R116). -/
inductive Instr where
  /-- `NOP` (R126) -/
  | nop
  /-- `WRCMD` (R89) -/
  | wrcmd
  /-- `WRDATA8` (R90) -/
  | wrdata8
  /-- `WRDATA16` (R91) -/
  | wrdata16
  /-- `SETWIN` (R96) -/
  | setwin
  /-- `SETORIENT` (R127) -/
  | setorient
  /-- `POINT` (R99) -/
  | point
  /-- `LINE` (R100) -/
  | line
  /-- `RECT` (R101) -/
  | rect
  /-- `RECTF` (R102) -/
  | rectf
  /-- `CIRCLE` (R106) -/
  | circle
  /-- `CIRCLEF` (R107) -/
  | circlef
  /-- `TRI` (R112) -/
  | tri
  /-- `TRIF` (R113) -/
  | trif
  /-- `TEXTCHAR[.OV]` (R119) -/
  | textchar (ov : Bool)
  /-- `TEXTSTR[.OV]` (R120) -/
  | textstr (ov : Bool)
  /-- `TEXTCTR[.OV]` (R121) -/
  | textctr (ov : Bool)
  /-- `NUMERIC[.OV]` (R123) -/
  | numeric (ov : Bool)
  /-- `BLIT` (R124) -/
  | blit
  /-- `FILLSCR` (R125) -/
  | fillscr
deriving DecidableEq, Repr

end Sys2Proof
end

