-- ==== Sys2Proof/WellFormed.lean ====
section
/-! DEFINITION. Well-formedness. Every `Instr` is well formed: its constructors hold nothing but the overlay
flag, and both values of it are encodings of the table. What can be ill formed is a command LINE (R81): the
operand list must have the length of the command's row of R77, and each operand must fit its slot (R76). -/

namespace Sys2Proof

/-- Where an operand of a command line goes (R76, R77): the low byte of `A0`, a whole argument register, or the
32-bit pair `{A7, A6}`. -/
inductive OperandSlot where
  /-- a byte operand: `A<i>[7:0]` -/
  | byte (i : Fin 8)
  /-- a 16-bit operand: `A<i>` -/
  | half (i : Fin 8)
  /-- a 32-bit operand: `{A7, A6}` -/
  | wide
deriving DecidableEq, Repr

/-- The operands a command line takes, in order: its row of R77. -/
def Instr.slots : Instr → List OperandSlot
  | .nop => []
  | .wrcmd => [.byte 0]
  | .wrdata8 => [.byte 0]
  | .wrdata16 => [.half 0]
  | .setwin => [.half 0, .half 1, .half 2, .half 3]
  | .setorient => [.half 0]
  | .point => [.half 0, .half 1, .half 2]
  | .line => [.half 0, .half 1, .half 2, .half 3, .half 4]
  | .rect => [.half 0, .half 1, .half 2, .half 3, .half 4]
  | .rectf => [.half 0, .half 1, .half 2, .half 3, .half 4]
  | .circle => [.half 0, .half 1, .half 2, .half 3]
  | .circlef => [.half 0, .half 1, .half 2, .half 3]
  | .tri => [.half 0, .half 1, .half 2, .half 3, .half 4, .half 5, .half 6]
  | .trif => [.half 0, .half 1, .half 2, .half 3, .half 4, .half 5, .half 6]
  | .textchar _ => [.half 0, .half 1, .half 2, .half 3, .half 4, .half 5]
  | .textstr _ => [.half 0, .half 1, .half 2, .half 3, .half 4, .half 5, .wide]
  | .textctr _ => [.half 2, .half 3, .half 4, .half 5, .wide]
  | .numeric _ => [.half 0, .half 1, .half 2, .half 3, .half 4, .half 5, .wide]
  | .blit => [.half 0, .half 1, .half 2, .half 3, .wide]
  | .fillscr => [.half 0]

/-- How many bits a slot holds (R76). -/
def OperandSlot.width : OperandSlot → Nat
  | .byte _ => 8
  | .half _ => 16
  | .wide => 32

/-- The argument registers a slot is read from (R76). -/
def OperandSlot.regs : OperandSlot → List (Fin 8)
  | .byte i => [i]
  | .half i => [i]
  | .wide => [6, 7]

/-- The argument registers a command reads: the columns of its row of R77 that are not "-". -/
def Instr.argRegs (i : Instr) : List (Fin 8) := i.slots.flatMap OperandSlot.regs

/-- A command line of a host program: a mnemonic and its operands (R81). -/
structure CommandLine where
  instr : Instr
  operands : List Nat
deriving DecidableEq, Repr

/-- Check 1: as many operands as the command's row of R77 lists. -/
def CommandLine.arityOk (c : CommandLine) : Bool := c.operands.length == c.instr.slots.length

/-- Check 2: each operand fits the slot it goes to. DESIGN CHOICE (log entry 23): R81 does not say what becomes of an
operand that is wider than its slot; the model calls such a line ill formed. -/
def CommandLine.rangesOk (c : CommandLine) : Bool :=
  (c.instr.slots.zip c.operands).all fun p => decide (p.2 < 2 ^ p.1.width)

/-- A command line the assembler of R81 accepts. -/
def CommandLine.wellFormed (c : CommandLine) : Bool := c.arityOk && c.rangesOk

/-- Every command of the table is well formed as it stands (R74: the overlay flag takes both values). -/
def Instr.wellFormed (_ : Instr) : Bool := true

end Sys2Proof
end

