-- ==== Sys2Proof/Decode.lean ====
section
/-! DEFINITION. Decoding a command word (R69 to R75, R78), total on all 2^32 words and rejecting by name, and the
encoder written from the same table (R74, R82). -/

namespace Sys2Proof

/-- Why a word is illegal (R78), one name per cause, in the order `Decode` of R75 checks them. -/
inductive IllegalWord where
  /-- a `RES` bit is set (R73) -/
  | reservedBits
  /-- `F = 1` outside `OPC` 0x12 to 0x14 (R71) -/
  | fillNotAllowed
  /-- `OV = 1` outside `OPC` 0x20 to 0x23 (R72) -/
  | overlayNotAllowed
  /-- an unassigned `OPC` (R74) -/
  | unassignedOpcode
deriving DecidableEq, Repr

/-- `OPC = w[7:0]` (R70). -/
def opcField (w : Word) : Byte := w.extractLsb' 0 8

/-- `F = w[8]` (R71). -/
def fillField (w : Word) : Bool := w.getLsbD 8

/-- `OV = w[9]` (R72). -/
def overlayField (w : Word) : Bool := w.getLsbD 9

/-- `RES = w[31:10]` (R73). -/
def resField (w : Word) : BitVec 22 := w.extractLsb' 10 22

/-- The operations `F = 1` is legal for (R71). -/
def takesFill (opc : Byte) : Bool := opc == 0x12#8 || opc == 0x13#8 || opc == 0x14#8

/-- The operations `OV = 1` is legal for (R72). -/
def takesOverlay (opc : Byte) : Bool := opc == 0x20#8 || opc == 0x21#8 || opc == 0x22#8 || opc == 0x23#8

/-- The row of R74 with this `OPC` and `F`, `OV` being a modifier of 0x20 to 0x23; none for an unassigned `OPC`. -/
def tableRow (opc : Byte) (f ov : Bool) : Option Instr :=
  match opc.toNat with
  | 0x00 => some .nop
  | 0x01 => some .wrcmd
  | 0x02 => some .wrdata8
  | 0x03 => some .wrdata16
  | 0x04 => some .setwin
  | 0x05 => some .setorient
  | 0x10 => some .point
  | 0x11 => some .line
  | 0x12 => some (if f then .rectf else .rect)
  | 0x13 => some (if f then .circlef else .circle)
  | 0x14 => some (if f then .trif else .tri)
  | 0x20 => some (.textchar ov)
  | 0x21 => some (.textstr ov)
  | 0x22 => some (.textctr ov)
  | 0x23 => some (.numeric ov)
  | 0x30 => some .blit
  | 0x31 => some .fillscr
  | _ => none

/-- `Decode(w)` of R75. -/
def decode (w : Word) : Except IllegalWord Instr :=
  if resField w ≠ 0#22 then .error .reservedBits
  else if fillField w && !takesFill (opcField w) then .error .fillNotAllowed
  else if overlayField w && !takesOverlay (opcField w) then .error .overlayNotAllowed
  else
    match tableRow (opcField w) (fillField w) (overlayField w) with
    | some i => .ok i
    | none => .error .unassignedOpcode

/-- The decoded command, or none for an illegal word. -/
def decode? (w : Word) : Option Instr :=
  match decode w with
  | .ok i => some i
  | .error _ => none

/-- A command's `OPC` (R74). -/
def Instr.opc : Instr → Byte
  | .nop => 0x00#8
  | .wrcmd => 0x01#8
  | .wrdata8 => 0x02#8
  | .wrdata16 => 0x03#8
  | .setwin => 0x04#8
  | .setorient => 0x05#8
  | .point => 0x10#8
  | .line => 0x11#8
  | .rect => 0x12#8
  | .rectf => 0x12#8
  | .circle => 0x13#8
  | .circlef => 0x13#8
  | .tri => 0x14#8
  | .trif => 0x14#8
  | .textchar _ => 0x20#8
  | .textstr _ => 0x21#8
  | .textctr _ => 0x22#8
  | .numeric _ => 0x23#8
  | .blit => 0x30#8
  | .fillscr => 0x31#8

/-- A command's `F` bit (R74). -/
def Instr.fill : Instr → Bool
  | .rectf => true
  | .circlef => true
  | .trif => true
  | .nop => false
  | .wrcmd => false
  | .wrdata8 => false
  | .wrdata16 => false
  | .setwin => false
  | .setorient => false
  | .point => false
  | .line => false
  | .rect => false
  | .circle => false
  | .tri => false
  | .textchar _ => false
  | .textstr _ => false
  | .textctr _ => false
  | .numeric _ => false
  | .blit => false
  | .fillscr => false

/-- A command's `OV` bit (R72, R74). -/
def Instr.overlay : Instr → Bool
  | .textchar ov => ov
  | .textstr ov => ov
  | .textctr ov => ov
  | .numeric ov => ov
  | .nop => false
  | .wrcmd => false
  | .wrdata8 => false
  | .wrdata16 => false
  | .setwin => false
  | .setorient => false
  | .point => false
  | .line => false
  | .rect => false
  | .rectf => false
  | .circle => false
  | .circlef => false
  | .tri => false
  | .trif => false
  | .blit => false
  | .fillscr => false

/-- The command word `OPC | F<<8 | OV<<9` (R69, R82). -/
def encode (i : Instr) : Word := 0#22 ++ BitVec.ofBool i.overlay ++ BitVec.ofBool i.fill ++ i.opc

/-- The instruction the decoder reads from a table row's word: `nbits` bits, those above them 0. -/
def decodeTableWord (nbits w : Nat) : Option Instr := decode? (BitVec.ofNat 32 (w % 2 ^ nbits))

end Sys2Proof
end

