-- ==== Sys2Proof/Config.lean ====
section
/-! DEFINITION. What the implementation fixes (R5), the reset values the spec states (R17, R149), and the
free values: OPEN build parameters and environment draws, opaque so that nothing can be proved of them. -/

namespace Sys2Proof.Config

/-- `W_MAX` and `H_MAX`: the largest legal width and height (R5, R28). -/
def dimMax : Nat := 256

/-- `PANEL_W` at reset (R149). -/
def panelWReset : Half := 128#16

/-- `PANEL_H` at reset (R149). -/
def panelHReset : Half := 160#16

/-- `OPC_CASET` at reset (R149). -/
def casetReset : Byte := 0x2A#8

/-- `OPC_RASET` at reset (R149). -/
def rasetReset : Byte := 0x2B#8

/-- `OPC_RAMWR` at reset (R149). -/
def ramwrReset : Byte := 0x2C#8

/-- `OPC_MADCTL` at reset (R149). -/
def madctlOpcReset : Byte := 0x36#8

/-- `MADCTL_RESET[0]` of `State.reset` (R5, R31, R149); the table itself is an argument of the model,
`State.madctlReset` (log entry 14). -/
def madctl0Reset : Byte := 0x00#8

/-- `MADCTL_RESET[1]` of `State.reset`, as above. -/
def madctl1Reset : Byte := 0x60#8

/-- `MADCTL_RESET[2]` of `State.reset`, as above. -/
def madctl2Reset : Byte := 0xC0#8

/-- `MADCTL_RESET[3]` of `State.reset`, as above. -/
def madctl3Reset : Byte := 0xA0#8

/-- The least printable glyph code (R5, R114). -/
def codeMin : Nat := 0x20

/-- The greatest printable glyph code (R5, R114). -/
def codeMax : Nat := 0x7E

/-- FREE VALUE: byte `i` of the build parameter `FONT12`, which the spec leaves OPEN (R5, R48, N9; log entry 2). -/
opaque font12 : Nat → Byte

/-- FREE VALUE: byte `i` of the build parameter `FONT16`, which the spec leaves OPEN (R5, R48, N9; log entry 2). -/
opaque font16 : Nat → Byte

/-- FREE VALUE: `CORE_BASE`, the host address of the register block, which the platform chooses (R5, R14, R144, U23;
log entry 13). -/
opaque coreBase : Nat

/-- FREE VALUE: the environment's `n`-th `BulkGrant()` draw where the state supplies none (R35, U20; log entry 3). -/
opaque bulkGrant : Nat → Bool

end Sys2Proof.Config
end

