-- ==== Sys2Proof/Machine/State.lean ====
section
/-! DEFINITION. The state of the core as plain data: the host registers (R17), the engine (R34), the source memory
(R44), the glyph ROM (R48), the bulk buffer (R50), the stream the bus carried (R12), and the model's own fields that
say what the environment does next. -/

namespace Sys2Proof.Machine

/-- Reasons the machine stops with a fault: there are none. No rule of the spec stops the core: an error is a code
in `STATUS.ERR` (R130), every register access and every source memory read is total (R15, R44), and a stalled bus
leaves the host able to go on (R136). -/
inductive Fault where
deriving DecidableEq, Repr

/-- Reasons the machine gives no meaning. -/
inductive Refusal where
  /-- Raised by an arm of `exec` whose command has no meaning yet; none is left. Safe: nothing follows from a stop. -/
  | notModelled (mnemonic : String)
deriving DecidableEq, Repr

/-- The outcome codes of `STATUS.ERR` (R24, R131). Values 6 to 15 are never written, so they have no constructor. -/
inductive ErrCode where
  | none
  | transportFault
  | invalidWindow
  | unsupportedGlyphSize
  | invalidArgument
  | illegalCommand
deriving DecidableEq, Repr

/-- The level of the command/data-select line (R52, R83): low for a command, high for data. -/
inductive Dc where
  | command
  | data
deriving DecidableEq, Repr

/-- A bus transaction: one select level and the bytes sent under one chip-select assertion (R83). -/
structure Tx where
  dc : Dc
  bytes : List Byte
deriving DecidableEq, Repr

/-- The state updates an expansion holds between its transactions (R34, R36). -/
inductive Mark where
  | winShadow (xs ys xe ye : Byte)
  | winInvalid
  | setOrient (d : BitVec 2)
deriving DecidableEq, Repr

/-- An item of an expansion (R34). -/
inductive Item where
  | tx (t : Tx)
  | mark (m : Mark)
deriving DecidableEq, Repr

/-- The engine's phase (R34). -/
inductive Phase where
  | idle
  | busy
deriving DecidableEq, Repr

/-- The argument registers `A0`..`A7` (R33). -/
structure ArgRegs where
  a0 : Half
  a1 : Half
  a2 : Half
  a3 : Half
  a4 : Half
  a5 : Half
  a6 : Half
  a7 : Half
deriving DecidableEq, Repr

/-- `L.cfg`: the configuration snapshot taken when a command is accepted (R34, R35). -/
structure LatchedCfg where
  width : Half
  height : Half
  caset : Byte
  raset : Byte
  ramwr : Byte
  madctlOpc : Byte
  madctl0 : Byte
  madctl1 : Byte
  madctl2 : Byte
  madctl3 : Byte
  bulkEn : Bool
deriving DecidableEq, Repr

/-- `L`: the latched command (R34). -/
structure Latch where
  word : Word
  args : ArgRegs
  cfg : LatchedCfg
deriving DecidableEq, Repr

/-- The bulk buffer while a fill holds it: how many pixels it holds and the one colour they all have (R50). -/
structure BulkBuffer where
  pixels : Nat
  colour : Half
deriving DecidableEq, Repr

/-- The glyph ROM (R48): bytes of the two tables by index `glyph * size + row`. A byte that is not listed is the
free value `Config.font12` or `Config.font16` (log entry 2). -/
structure GlyphRom where
  font12 : List Host.Cell
  font16 : List Host.Cell
deriving DecidableEq, Repr

/-- What the bus carried (R12, R54): a whole transaction, or the first `k` bytes of one that broke off on a
transport fault (R135) or a reset (R149). -/
inductive BusEvent where
  | carried (t : Tx)
  | broken (t : Tx) (k : Nat)
deriving DecidableEq, Repr

/-- The bus's answer to an offered transaction (R54). -/
inductive BusAnswer where
  | ok
  | fault (k : Nat)
  | noAnswer
deriving DecidableEq, Repr

/-- A source byte the platform wrote while a command ran, with the value it wrote (R46, R152). -/
structure RacingByte where
  addr : Word
  value : Byte
deriving DecidableEq, Repr

/-- The build parameter `MADCTL_RESET` (R5, R31): the reset values of `MADCTL0` to `MADCTL3`. -/
structure MadctlTable where
  m0 : Byte
  m1 : Byte
  m2 : Byte
  m3 : Byte
deriving DecidableEq, Repr

/-- One move of one agent (R13), the environment's choices included. -/
inductive Event where
  /-- a host agent reads the register at an offset (R14) -/
  | hostRead (off : Offset)
  /-- a host agent writes the register at an offset (R14, R16, R18) -/
  | hostWrite (off : Offset) (v : Word)
  /-- the engine performs the first item of the expansion; `ans` is the bus's draw if that item is a
  transaction, and is not looked at if it is a mark (R36, R54) -/
  | engine (ans : BusAnswer)
  /-- reset; `some k` if it cuts the transaction on the bus after `k` bytes, `none` if no transaction was on the
  bus at that moment (R148, R149) -/
  | reset (cut : Option Nat)
  /-- the platform writes a source-memory byte (R44) -/
  | memWrite (addr : Word) (b : Byte)
  /-- the running command reads these source bytes late, with the values the platform gave them under it (the race of
  R46, R152) -/
  | lateRead (bytes : List RacingByte)
deriving DecidableEq, Repr

/-- The named registers of the host register space (R17). -/
inductive Reg where
  | cmd | status | ctrl | orient | width | height | panelW | panelH | controllerId
  | opcCaset | opcRaset | opcRamwr | opcMadctl
  | madctl0 | madctl1 | madctl2 | madctl3
  | winXs | winYs | winXe | winYe
  | arg (i : Fin 8)
deriving DecidableEq, Repr

/-- The state of the machine. -/
structure State where
  /-- `CMD` (R18) -/
  cmd : Word
  /-- `STATUS.WINV` (R21) -/
  winv : Bool
  /-- `STATUS.FALLBACK` (R22) -/
  fallback : Bool
  /-- `STATUS.OVERRUN` (R23) -/
  overrun : Bool
  /-- `STATUS.ERR` (R24) -/
  err : ErrCode
  /-- `CTRL.BULK_EN` (R25) -/
  bulkEn : Bool
  /-- `ORIENT` (R26) -/
  orient : BitVec 2
  /-- `PANEL_W` (R28) -/
  panelW : Half
  /-- `PANEL_H` (R28) -/
  panelH : Half
  /-- `CONTROLLER_ID` (R29) -/
  controllerId : Half
  /-- `OPC_CASET` (R30) -/
  opcCaset : Byte
  /-- `OPC_RASET` (R30) -/
  opcRaset : Byte
  /-- `OPC_RAMWR` (R30) -/
  opcRamwr : Byte
  /-- `OPC_MADCTL` (R30) -/
  opcMadctl : Byte
  /-- `MADCTL0` (R31) -/
  madctl0 : Byte
  /-- `MADCTL1` (R31) -/
  madctl1 : Byte
  /-- `MADCTL2` (R31) -/
  madctl2 : Byte
  /-- `MADCTL3` (R31) -/
  madctl3 : Byte
  /-- `MADCTL_RESET`, a build parameter: reset loads `MADCTL0` to `MADCTL3` from it and no step writes it (R5, R31,
  U23; log entry 14) -/
  madctlReset : MadctlTable
  /-- `WIN_XS` (R32) -/
  winXs : Byte
  /-- `WIN_YS` (R32) -/
  winYs : Byte
  /-- `WIN_XE` (R32) -/
  winXe : Byte
  /-- `WIN_YE` (R32) -/
  winYe : Byte
  /-- `A0`..`A7` (R33) -/
  args : ArgRegs
  /-- the engine's phase; `STATUS.BUSY` is read from it (R20, R34) -/
  phase : Phase
  /-- `L` (R34) -/
  latch : Latch
  /-- `Q`, the remaining expansion (R34) -/
  q : List Item
  /-- the bulk buffer; none when released (R50) -/
  bulk : Option BulkBuffer
  /-- the source memory (R44): addresses strictly rising, no byte listed that an unlisted address reads as -/
  mem : List Host.Cell
  /-- the glyph ROM (R48) -/
  rom : GlyphRom
  /-- the transaction stream the bus carried, oldest first (R12) -/
  trace : List BusEvent
  /-- MODEL: the transaction at the head of `q` was offered and will never be answered (R54, R136) -/
  stalled : Bool
  /-- MODEL: the source memory as the running command reads it: the accept-time snapshot (R46), and the racing
  bytes it has since read late -/
  seenMem : List Host.Cell
  /-- MODEL: the source bytes the platform has written since the running command was accepted, oldest first (R46) -/
  racing : List RacingByte
  /-- MODEL: the `BulkGrant()` draw of the running command (R35) -/
  seenGrant : Bool
  /-- MODEL: how many items of the running command's expansion have been performed (R36) -/
  performed : Nat
  /-- MODEL: `BulkGrant()` draws the environment has supplied for the next accepts (R35, U20) -/
  grants : List Bool
  /-- MODEL: how many `BulkGrant()` draws have been taken -/
  draws : Nat
  /-- MODEL: the moves of the agents still to come, in order (R13: host and engine steps interleave in any order) -/
  agenda : List Event
  /-- MODEL: the value the last host read returned (R14) -/
  readData : Word
deriving DecidableEq, Repr

/-- What a command's expansion is a function of (R35): the latch, the source memory, the glyph ROM, the draw `g`. -/
structure View where
  latch : Latch
  mem : List Host.Cell
  rom : GlyphRom
  grant : Bool
deriving DecidableEq, Repr

/-- The result of `Expand` (R35): an error, or the items, `r.fallback`, and the bulk buffer the command holds
while it runs. -/
inductive Expansion where
  | error (c : ErrCode)
  | items (its : List Item) (fallback : Bool) (bulk : Option BulkBuffer)
deriving DecidableEq, Repr

/-- `A0`..`A7` all 0, their reset value (R33, R149). -/
def ArgRegs.zero : ArgRegs := ⟨0#16, 0#16, 0#16, 0#16, 0#16, 0#16, 0#16, 0#16⟩

/-- `L` after reset. The spec leaves it unspecified and no rule reads it before the next accept (R34, R149); the
model names zero (DESIGN CHOICE, log entry 4). -/
def Latch.zero : Latch := ⟨0#32, ArgRegs.zero, ⟨0#16, 0#16, 0#8, 0#8, 0#8, 0#8, 0#8, 0#8, 0#8, 0#8, false⟩⟩

/-- The machine right after reset (R149). The MODEL fields, the source memory and the glyph ROM, which the core's
reset does not give a value, are named in log entries 1 to 5. -/
def State.reset : State where
  cmd := 0#32
  winv := false
  fallback := false
  overrun := false
  err := .none
  bulkEn := false
  orient := 0#2
  panelW := Config.panelWReset
  panelH := Config.panelHReset
  controllerId := 0#16
  opcCaset := Config.casetReset
  opcRaset := Config.rasetReset
  opcRamwr := Config.ramwrReset
  opcMadctl := Config.madctlOpcReset
  madctl0 := Config.madctl0Reset
  madctl1 := Config.madctl1Reset
  madctl2 := Config.madctl2Reset
  madctl3 := Config.madctl3Reset
  madctlReset := ⟨Config.madctl0Reset, Config.madctl1Reset, Config.madctl2Reset, Config.madctl3Reset⟩
  winXs := 0#8
  winYs := 0#8
  winXe := 0#8
  winYe := 0#8
  args := ArgRegs.zero
  phase := .idle
  latch := Latch.zero
  q := []
  bulk := none
  mem := []
  rom := ⟨[], []⟩
  trace := []
  stalled := false
  seenMem := []
  racing := []
  seenGrant := false
  performed := 0
  grants := []
  draws := 0
  agenda := []
  readData := 0#32

end Sys2Proof.Machine
end

