-- ==== Sys2Proof/Machine/Flags.lean ====
section
/-! DEFINITION. The `STATUS` register (R19 to R24): its fields, the word a host reads, and every update of it. -/

namespace Sys2Proof.Machine

/-- The 4-bit code of an outcome (R24, R131). -/
def ErrCode.code : ErrCode → BitVec 4
  | .none => 0#4
  | .transportFault => 1#4
  | .invalidWindow => 2#4
  | .unsupportedGlyphSize => 3#4
  | .invalidArgument => 4#4
  | .illegalCommand => 5#4

/-- `STATUS.BUSY` (R20): 1 exactly while the phase is `Busy`. -/
def State.busy (s : State) : Bool := s.phase == .busy

/-- The word a read of `STATUS` returns (R19). -/
def State.statusWord (s : State) : Word :=
  0#24 ++ s.err.code ++ BitVec.ofBool s.overrun ++ BitVec.ofBool s.fallback ++ BitVec.ofBool s.winv ++
    BitVec.ofBool s.busy

/-- A host write of `v` to `STATUS`: it clears `OVERRUN` if `v[3] = 1` and changes nothing else (R19). -/
def State.writeStatus (s : State) (v : Word) : State :=
  { s with overrun := s.overrun && !v.getLsbD 3 }

/-- A write dropped because the engine is busy: the register keeps its value and `OVERRUN <- 1` (R16, R23). -/
def State.dropWrite (s : State) : State := { s with overrun := true }

/-- `STATUS.ERR <- code` (R24, R134). -/
def State.reject (s : State) (c : ErrCode) : State := { s with err := c }

end Sys2Proof.Machine
end

