-- ==== Sys2Proof/Machine/Operands.lean ====
section
/-! DEFINITION. Every operand form of the commands (R76): the argument registers, the latch taken at acceptance
(R35), byte, 16-bit and 32-bit operands. No operand is sign-extended, scaled or shifted. -/

namespace Sys2Proof.Machine

/-- `A<i>` (R33). -/
def ArgRegs.get (r : ArgRegs) (i : Fin 8) : Half :=
  match i with
  | 0 => r.a0
  | 1 => r.a1
  | 2 => r.a2
  | 3 => r.a3
  | 4 => r.a4
  | 5 => r.a5
  | 6 => r.a6
  | 7 => r.a7

/-- `A<i> <- v` (R33). -/
def ArgRegs.set (r : ArgRegs) (i : Fin 8) (v : Half) : ArgRegs :=
  match i with
  | 0 => { r with a0 := v }
  | 1 => { r with a1 := v }
  | 2 => { r with a2 := v }
  | 3 => { r with a3 := v }
  | 4 => { r with a4 := v }
  | 5 => { r with a5 := v }
  | 6 => { r with a6 := v }
  | 7 => { r with a7 := v }

/-- A 16-bit operand as the integer the pseudocode computes with (R6, R76). -/
def Latch.int (l : Latch) (i : Fin 8) : Int := ((l.args.get i).toNat : Int)

/-- A 16-bit operand as a count (R6, R76). -/
def Latch.nat (l : Latch) (i : Fin 8) : Nat := (l.args.get i).toNat

/-- A 16-bit operand taken whole: a colour or a data value (R7, R76). -/
def Latch.half (l : Latch) (i : Fin 8) : Half := l.args.get i

/-- A byte operand: bits 7 to 0 of the register, bits 15 to 8 ignored (R76). -/
def Latch.byte (l : Latch) (i : Fin 8) : Byte := (l.args.get i).extractLsb' 0 8

/-- The 32-bit operand `{A7, A6}` (R76): a source address or the `NUMERIC` value. -/
def Latch.wide (l : Latch) : Word := l.args.a7 ++ l.args.a6

/-- `WIDTH` of the latched configuration as an integer (R92). -/
def LatchedCfg.w (c : LatchedCfg) : Int := (c.width.toNat : Int)

/-- `HEIGHT` of the latched configuration as an integer (R92). -/
def LatchedCfg.h (c : LatchedCfg) : Int := (c.height.toNat : Int)

/-- `L.cfg.MADCTL[d]` (R127). -/
def LatchedCfg.madctl (c : LatchedCfg) (d : BitVec 2) : Byte :=
  match d.toNat with
  | 0 => c.madctl0
  | 1 => c.madctl1
  | 2 => c.madctl2
  | _ => c.madctl3

/-- `v[7:0]` of a non-negative integer (R6, R9). -/
def low8 (v : Int) : Byte := BitVec.ofInt 8 v

/-- `WIDTH` (R27). -/
def State.width (s : State) : Half := if s.orient.getLsbD 0 then s.panelH else s.panelW

/-- `HEIGHT` (R27). -/
def State.height (s : State) : Half := if s.orient.getLsbD 0 then s.panelW else s.panelH

/-- The latch a command is accepted with (R35): the word, the argument copies, the configuration snapshot. -/
def State.latchFor (s : State) (w : Word) : Latch where
  word := w
  args := s.args
  cfg :=
    { width := s.width, height := s.height, caset := s.opcCaset, raset := s.opcRaset, ramwr := s.opcRamwr,
      madctlOpc := s.opcMadctl, madctl0 := s.madctl0, madctl1 := s.madctl1, madctl2 := s.madctl2,
      madctl3 := s.madctl3, bulkEn := s.bulkEn }

end Sys2Proof.Machine
end

