-- ==== Sys2Proof/Machine/Ops.lean ====
section
/-! DEFINITION. The operations every command and every agent's step share: source memory and glyph ROM reads, bus
transactions, accepting a command, the engine's step, taking an error, reset, and the host register port. -/

namespace Sys2Proof.Machine

/-! ## Source memory (R44, R45) -/

/-- What an unlisted source-memory address reads as (DESIGN CHOICE, log entry 1). -/
def Memory.unlisted : Byte := 0#8

/-- The byte a cell list holds at a key, if it lists one. -/
def Memory.find? : List Host.Cell → Nat → Option Byte
  | [], _ => none
  | (k, b) :: m, a => if k = a then some b else Memory.find? m a

/-- `M[a]` (R44): total, never an error. -/
def Memory.readByte (m : List Host.Cell) (a : Nat) : Byte := (Memory.find? m a).getD Memory.unlisted

/-- `M[a] <- b`, keeping the canonical form. Only the platform writes the source memory (R47). -/
def Memory.writeByte : List Host.Cell → Nat → Byte → List Host.Cell
  | [], a, b => if b = Memory.unlisted then [] else [(a, b)]
  | (k, c) :: m, a, b =>
    if a < k then (if b = Memory.unlisted then (k, c) :: m else (a, b) :: (k, c) :: m)
    else if a = k then (if b = Memory.unlisted then m else (a, b) :: m)
    else (k, c) :: Memory.writeByte m a b

/-- The canonical form from address `lo` up: strictly rising, inside the 2^32 bytes of R44, no default byte. -/
def Memory.wfFrom (lo : Nat) : List Host.Cell → Bool
  | [] => true
  | (k, b) :: m => decide (lo ≤ k) && decide (k < 2 ^ 32) && b != Memory.unlisted && Memory.wfFrom (k + 1) m

/-- The canonical form of the source memory. -/
def Memory.wf (m : List Host.Cell) : Bool := Memory.wfFrom 0 m

/-- `MemRead(addr, n)` (R45): little-endian, addresses modulo 2^32, never faulting. -/
def memRead (m : List Host.Cell) (addr : Nat) : Nat → Nat
  | 0 => 0
  | n + 1 => (Memory.readByte m (addr % 2 ^ 32)).toNat + 256 * memRead m (addr + 1) n

/-! ## Glyph ROM (R48, R49) -/

/-- `Rom(size, code, r)` for `size` in {12, 16}, a printable `code` and `r` below `size` (R49). -/
def GlyphRom.byte (rom : GlyphRom) (size code r : Nat) : Byte :=
  if size = 12 then
    (Memory.find? rom.font12 ((code - Config.codeMin) * 12 + r)).getD (Config.font12 ((code - Config.codeMin) * 12 + r))
  else
    (Memory.find? rom.font16 ((code - Config.codeMin) * 16 + r)).getD (Config.font16 ((code - Config.codeMin) * 16 + r))

/-- `Rom(size, code, r)[col]`: bit `col` of the byte is column `col`, least significant bit leftmost (R49). -/
def GlyphRom.bit (rom : GlyphRom) (size code r col : Nat) : Bool := (rom.byte size code r).getLsbD col

/-! ## Transactions (R83 to R87) -/

/-- `Cmd(b)` (R84). -/
def Tx.cmd (b : Byte) : Tx := ⟨.command, [b]⟩

/-- `Data8(b)` (R85). -/
def Tx.data8 (b : Byte) : Tx := ⟨.data, [b]⟩

/-- The two bytes of a 16-bit value, high byte first (R41, R86). -/
def halfBytes (v : Half) : List Byte := [v.extractLsb' 8 8, v.extractLsb' 0 8]

/-- `Data16(v)` (R86): one transaction, high byte first. -/
def Tx.data16 (v : Half) : Tx := ⟨.data, halfBytes v⟩

/-- `Bulk(bs)` (R87). -/
def Tx.bulk (bs : List Byte) : Tx := ⟨.data, bs⟩

/-- The transactions of an expansion, in order. -/
def txsOf : List Item → List Tx
  | [] => []
  | .tx t :: is => t :: txsOf is
  | .mark _ :: is => txsOf is

/-- The items of an expansion; none for an error. -/
def Expansion.list : Expansion → List Item
  | .error _ => []
  | .items its _ _ => its

/-! ## Accepting a command (R35) -/

/-- `BulkGrant()` (R35): the environment's draw for the next accept. -/
def State.bulkGrant (s : State) : Bool :=
  match s.grants with
  | g :: _ => g
  | [] => Config.bulkGrant s.draws

/-- What the command word `w` is expanded from when it is accepted now (R35, R46). -/
def State.viewFor (s : State) (w : Word) : View := ⟨s.latchFor w, s.mem, s.rom, s.bulkGrant⟩

/-- The first part of the accept step (R18, R35): `CMD` reads the word, the latch is taken, `ERR` and `FALLBACK` are
cleared, the draw is taken, and the memory snapshot is the memory of this moment (R46). -/
def State.beginCommand (s : State) (w : Word) : State :=
  { s with
    cmd := w
    latch := s.latchFor w
    err := .none
    fallback := false
    seenMem := s.mem
    racing := []
    seenGrant := s.bulkGrant
    performed := 0
    grants := s.grants.tail
    draws := s.draws + 1 }

/-- The second part of the accept step (R35): an error leaves the engine idle with its code (R134), an empty
expansion completes at once, any other starts the engine. -/
def State.startExpansion (s : State) (e : Expansion) : State :=
  match e with
  | .error c => s.reject c
  | .items [] fb _ => { s with fallback := fb }
  | .items (it :: its) fb b => { s with q := it :: its, phase := .busy, fallback := fb, bulk := b }

/-- A host write of the command word `w` to `CMD` (R18): accepted in phase `Idle` (R35), dropped while busy (R16). -/
def State.issue (s : State) (w : Word) (expand : View → Expansion) : State :=
  match s.phase with
  | .busy => s.dropWrite
  | .idle => (s.beginCommand w).startExpansion (expand (s.viewFor w))

/-- Accepting an illegal word (R78): it completes at once with `ILLEGAL_COMMAND` and changes no other state. -/
def execIllegal (w : Word) (s : State) : Host.Outcome State Fault Refusal :=
  .next (s.issue w fun _ => .error .illegalCommand)

/-! ## The engine's step (R36, R135, R136) -/

/-- `Mark(WinShadow(a, b, c, d))` performed (R32, R36). -/
def State.showWindow (s : State) (xs ys xe ye : Byte) : State :=
  { s with winXs := xs, winYs := ys, winXe := xe, winYe := ye, winv := true }

/-- `Mark(WinInvalid)` performed (R21, R36). -/
def State.invalidateWindow (s : State) : State := { s with winv := false }

/-- `Mark(SetOrient(d))` performed (R26, R36). -/
def State.turnTo (s : State) (d : BitVec 2) : State := { s with orient := d }

/-- A mark performed (R36). -/
def State.applyMark (s : State) : Mark → State
  | .winShadow xs ys xe ye => s.showWindow xs ys xe ye
  | .winInvalid => s.invalidateWindow
  | .setOrient d => s.turnTo d

/-- A transaction answered `Ok`: all its bytes were transmitted (R54). -/
def State.carry (s : State) (t : Tx) : State := { s with trace := s.trace ++ [.carried t] }

/-- `Q <- tail(Q)`; if `Q` is then empty the phase becomes `Idle` and the bulk buffer is released (R36, R50). -/
def State.advance (s : State) (rest : List Item) : State :=
  { s with
    q := rest
    performed := s.performed + 1
    phase := if rest = [] then .idle else .busy
    bulk := if rest = [] then none else s.bulk }

/-- TAKING AN ERROR OF THE BUS: `Fault(k)` answered to the transaction `t` (R135). The rest of the expansion is
abandoned, `WINV <- 0`, `ERR <- TRANSPORT_FAULT`, the bulk buffer is released, the phase is `Idle`; the first `k`
bytes (all of them if `k` is over their number, log entry 7) reached the panel. There is no return (R139). -/
def State.transportFault (s : State) (t : Tx) (k : Nat) : State :=
  { s with
    q := []
    winv := false
    err := .transportFault
    bulk := none
    phase := .idle
    trace := s.trace ++ [.broken t (min k t.bytes.length)] }

/-- The transaction is never answered: the engine has no further step, only reset leaves this state (R136). -/
def State.stall (s : State) : State := { s with stalled := true }

/-- One step of the engine (R36): the head item of `Q`, with the bus's answer if it is a transaction. -/
def State.engineStep (s : State) (ans : BusAnswer) : State :=
  match s.phase, s.stalled, s.q with
  | .busy, false, .mark m :: rest => (s.applyMark m).advance rest
  | .busy, false, .tx t :: rest =>
    match ans with
    | .ok => (s.carry t).advance rest
    | .fault k => s.transportFault t k
    | .noAnswer => s.stall
  | .busy, false, [] => { s with phase := .idle }
  | .busy, true, _ => s
  | .idle, _, _ => s

/-! ## Reset (R148, R149) -/

/-- How many bytes of the transaction on the bus had been sent when reset cut it, if one was on the bus: the
environment says (R149); a stalled transaction is on the bus (R136). -/
def State.cutAt (s : State) (cut : Option Nat) : Option Nat := if s.stalled then some (cut.getD 0) else cut

/-- What the bus stream records of a reset: the transaction on the bus ends after some prefix of its bytes (R149). -/
def State.cutTrace (s : State) (cut : Option Nat) : List BusEvent :=
  match s.phase, s.q, s.cutAt cut with
  | .busy, .tx t :: _, some k => s.trace ++ [.broken t (min k t.bytes.length)]
  | _, _, _ => s.trace

/-- Reset (R149): every piece of core state takes its reset value, `MADCTL0` to `MADCTL3` that of the build parameter
`MADCTL_RESET` (R31); the source memory, the glyph ROM, the build parameter, the stream already carried and the
environment's choices are not core state and stay. -/
def State.resetCore (s : State) (cut : Option Nat) : State :=
  { State.reset with
    mem := s.mem
    rom := s.rom
    madctlReset := s.madctlReset
    madctl0 := s.madctlReset.m0
    madctl1 := s.madctlReset.m1
    madctl2 := s.madctlReset.m2
    madctl3 := s.madctlReset.m3
    trace := s.cutTrace cut
    grants := s.grants
    draws := s.draws
    agenda := s.agenda
    readData := s.readData }

/-! ## The host register port (R13 to R33) -/

/-- The register a 4-byte word of the register space holds (R17); none for the reserved words 0x54 to 0x5C. -/
def Reg.ofIndex : Nat → Option Reg
  | 0 => some .cmd
  | 1 => some .status
  | 2 => some .ctrl
  | 3 => some .orient
  | 4 => some .width
  | 5 => some .height
  | 6 => some .panelW
  | 7 => some .panelH
  | 8 => some .controllerId
  | 9 => some .opcCaset
  | 10 => some .opcRaset
  | 11 => some .opcRamwr
  | 12 => some .opcMadctl
  | 13 => some .madctl0
  | 14 => some .madctl1
  | 15 => some .madctl2
  | 16 => some .madctl3
  | 17 => some .winXs
  | 18 => some .winYs
  | 19 => some .winXe
  | 20 => some .winYe
  | 24 => some (.arg 0)
  | 25 => some (.arg 1)
  | 26 => some (.arg 2)
  | 27 => some (.arg 3)
  | 28 => some (.arg 4)
  | 29 => some (.arg 5)
  | 30 => some (.arg 6)
  | 31 => some (.arg 7)
  | _ => none

/-- The register at a byte offset: offset bits 1 and 0 are ignored (R14). -/
def Reg.ofOffset (off : Offset) : Option Reg := Reg.ofIndex (off.toNat / 4)

/-- The byte offset of a register (R17). -/
def Reg.offset : Reg → Offset
  | .cmd => 0x00#7
  | .status => 0x04#7
  | .ctrl => 0x08#7
  | .orient => 0x0C#7
  | .width => 0x10#7
  | .height => 0x14#7
  | .panelW => 0x18#7
  | .panelH => 0x1C#7
  | .controllerId => 0x20#7
  | .opcCaset => 0x24#7
  | .opcRaset => 0x28#7
  | .opcRamwr => 0x2C#7
  | .opcMadctl => 0x30#7
  | .madctl0 => 0x34#7
  | .madctl1 => 0x38#7
  | .madctl2 => 0x3C#7
  | .madctl3 => 0x40#7
  | .winXs => 0x44#7
  | .winYs => 0x48#7
  | .winXe => 0x4C#7
  | .winYe => 0x50#7
  | .arg i => BitVec.ofNat 7 (0x60 + 4 * i.val)

/-- The registers whose host writes are dropped while the engine is busy (R16). -/
def Reg.guarded : Reg → Bool
  | .cmd | .ctrl | .panelW | .panelH | .controllerId => true
  | .opcCaset | .opcRaset | .opcRamwr | .opcMadctl => true
  | .madctl0 | .madctl1 | .madctl2 | .madctl3 => true
  | .status | .orient | .width | .height | .winXs | .winYs | .winXe | .winYe | .arg _ => false

/-- The read-only registers, whose writes are ignored at all times (R16, R17). -/
def Reg.readOnly : Reg → Bool
  | .orient | .width | .height | .winXs | .winYs | .winXe | .winYe => true
  | .cmd | .status | .ctrl | .panelW | .panelH | .controllerId => false
  | .opcCaset | .opcRaset | .opcRamwr | .opcMadctl => false
  | .madctl0 | .madctl1 | .madctl2 | .madctl3 | .arg _ => false

/-- The value of a register, reserved bits 0 (R14, R17). -/
def State.readReg (s : State) : Reg → Word
  | .cmd => s.cmd
  | .status => s.statusWord
  | .ctrl => (BitVec.ofBool s.bulkEn).setWidth 32
  | .orient => s.orient.setWidth 32
  | .width => s.width.setWidth 32
  | .height => s.height.setWidth 32
  | .panelW => s.panelW.setWidth 32
  | .panelH => s.panelH.setWidth 32
  | .controllerId => s.controllerId.setWidth 32
  | .opcCaset => s.opcCaset.setWidth 32
  | .opcRaset => s.opcRaset.setWidth 32
  | .opcRamwr => s.opcRamwr.setWidth 32
  | .opcMadctl => s.opcMadctl.setWidth 32
  | .madctl0 => s.madctl0.setWidth 32
  | .madctl1 => s.madctl1.setWidth 32
  | .madctl2 => s.madctl2.setWidth 32
  | .madctl3 => s.madctl3.setWidth 32
  | .winXs => s.winXs.setWidth 32
  | .winYs => s.winYs.setWidth 32
  | .winXe => s.winXe.setWidth 32
  | .winYe => s.winYe.setWidth 32
  | .arg i => (s.args.get i).setWidth 32

/-- `v[7:0]` of a host value. -/
def wordByte (v : Word) : Byte := v.extractLsb' 0 8

/-- `v[15:0]` of a host value. -/
def wordHalf (v : Word) : Half := v.extractLsb' 0 16

/-- A legal panel dimension: 1 to 256 (R28). -/
def dimLegal (v : Half) : Bool := decide (1 ≤ v.toNat) && decide (v.toNat ≤ Config.dimMax)

/-- The effect of a host write that is not dropped on a register other than `CMD` (R17, R19, R25, R28 to R31, R33):
an out-of-range panel dimension and a write to a read-only register are ignored. A write to `CMD` is a command
issue (R18) and does not come here. -/
def State.writeReg (s : State) (r : Reg) (v : Word) : State :=
  match r with
  | .cmd => s
  | .status => s.writeStatus v
  | .ctrl => { s with bulkEn := v.getLsbD 0 }
  | .orient => s
  | .width => s
  | .height => s
  | .panelW => if dimLegal (wordHalf v) then { s with panelW := wordHalf v } else s
  | .panelH => if dimLegal (wordHalf v) then { s with panelH := wordHalf v } else s
  | .controllerId => { s with controllerId := wordHalf v }
  | .opcCaset => { s with opcCaset := wordByte v }
  | .opcRaset => { s with opcRaset := wordByte v }
  | .opcRamwr => { s with opcRamwr := wordByte v }
  | .opcMadctl => { s with opcMadctl := wordByte v }
  | .madctl0 => { s with madctl0 := wordByte v }
  | .madctl1 => { s with madctl1 := wordByte v }
  | .madctl2 => { s with madctl2 := wordByte v }
  | .madctl3 => { s with madctl3 := wordByte v }
  | .winXs => s
  | .winYs => s
  | .winXe => s
  | .winYe => s
  | .arg i => { s with args := s.args.set i (wordHalf v) }

/-- A host read (R14, R15): it returns the register's value, 0 at a reserved offset, and has no side effect. -/
def State.hostRead (s : State) (off : Offset) : State :=
  { s with readData := match Reg.ofOffset off with
                       | some r => s.readReg r
                       | none => 0#32 }

/-- A host write to a register other than `CMD`: dropped with `OVERRUN` if the register is guarded and the engine is
busy (R16), else performed. -/
def State.guardedWrite (s : State) (r : Reg) (v : Word) : State :=
  if r.guarded && s.busy then s.dropWrite else s.writeReg r v

end Sys2Proof.Machine
end

