-- ==== Sys2Proof/Machine/Window.lean ====
section
/-! DEFINITION. The addressing window manager (R92 to R96): the window sequence every drawing family uses, the
restore, one plotted pixel, and the command `SETWIN`. Coordinates are unbounded integers (R6). -/

namespace Sys2Proof.Machine

/-- `ValidWin(x0, y0, x1, y1)` for the latched dimensions (R92). -/
def validWin (c : LatchedCfg) (x0 y0 x1 y1 : Int) : Bool :=
  decide (0 ≤ x0) && decide (x0 ≤ x1) && decide (x1 ≤ c.w - 1) &&
    (decide (0 ≤ y0) && decide (y0 ≤ y1) && decide (y1 ≤ c.h - 1))

/-- `x < WIDTH` and `y < HEIGHT` (R99, R100, R112), the coordinates being non-negative. -/
def onScreen (c : LatchedCfg) (x y : Int) : Bool :=
  decide (0 ≤ x) && decide (x < c.w) && (decide (0 ≤ y) && decide (y < c.h))

/-- `WinSeq(x0, y0, x1, y1)` (R93): 11 transactions, then the window shadow. -/
def winSeq (c : LatchedCfg) (x0 y0 x1 y1 : Int) : List Item :=
  [.tx (Tx.cmd c.caset),
    .tx (Tx.data8 0x00#8), .tx (Tx.data8 (low8 x0)), .tx (Tx.data8 0x00#8), .tx (Tx.data8 (low8 x1)),
    .tx (Tx.cmd c.raset),
    .tx (Tx.data8 0x00#8), .tx (Tx.data8 (low8 y0)), .tx (Tx.data8 0x00#8), .tx (Tx.data8 (low8 y1)),
    .tx (Tx.cmd c.ramwr),
    .mark (.winShadow (low8 x0) (low8 y0) (low8 x1) (low8 y1))]

/-- `FullWin` (R94): the restore of every drawing command. -/
def fullWin (c : LatchedCfg) : List Item := winSeq c 0 0 (c.w - 1) (c.h - 1)

/-- `n` pixels of one colour, each its own `Data16` (R102, R108, R125). -/
def solidPixels (n : Nat) (colour : Half) : List Item := List.replicate n (.tx (Tx.data16 colour))

/-- `Plot(x, y, c)` (R97): a 1×1 window and one pixel. -/
def plot (c : LatchedCfg) (colour : Half) (p : Int × Int) : List Item :=
  winSeq c p.1 p.2 p.1 p.2 ++ [.tx (Tx.data16 colour)]

/-- The plots of a list of points, in order. -/
def plots (c : LatchedCfg) (colour : Half) (ps : List (Int × Int)) : List Item := ps.flatMap (plot c colour)

/-- The expansion of a drawing command that emits `body`: the body, then one restore (R94). -/
def drawn (c : LatchedCfg) (body : List Item) : Expansion := .items (body ++ fullWin c) false none

/-- The integers `a..b`, ascending; none when `a > b` (R9). -/
def intRange (a b : Int) : List Int := (List.range (b - a + 1).toNat).map fun k => a + (k : Int)

/-- `SETWIN x0, y0, x1, y1` (R96): no restore follows. -/
def expandSetwin (v : View) : Expansion :=
  let l := v.latch
  if validWin l.cfg (l.int 0) (l.int 1) (l.int 2) (l.int 3) then
    .items (winSeq l.cfg (l.int 0) (l.int 1) (l.int 2) (l.int 3)) false none
  else .error .invalidWindow

/-- `SETWIN` (R96). -/
def execSetwin (s : State) : Host.Outcome State Fault Refusal := .next (s.issue (encode .setwin) expandSetwin)

end Sys2Proof.Machine
end

