-- ==== Sys2Proof/Machine/Blit.lean ====
section
/-! DEFINITION. The image blit and the full-screen fill (R124, R125). -/

namespace Sys2Proof.Machine

/-- Pixel `k` of a raster at `addr` (R124): `MemRead((addr + 2*k) mod 2^32, 2)`. -/
def rasterPixel (m : List Host.Cell) (addr k : Nat) : Half := BitVec.ofNat 16 (memRead m ((addr + 2 * k) % 2 ^ 32) 2)

/-- `BLIT x, y, w, h, addr` (R124). -/
def expandBlit (v : View) : Expansion :=
  let l := v.latch
  let w := l.nat 2
  let h := l.nat 3
  if decide (1 ≤ w) && decide (1 ≤ h) &&
      validWin l.cfg (l.int 0) (l.int 1) (l.int 0 + (w : Int) - 1) (l.int 1 + (h : Int) - 1) then
    drawn l.cfg
      (winSeq l.cfg (l.int 0) (l.int 1) (l.int 0 + (w : Int) - 1) (l.int 1 + (h : Int) - 1) ++
        (List.range (w * h)).map fun k => .tx (Tx.data16 (rasterPixel v.mem l.wide.toNat k)))
  else .error .invalidWindow

/-- `BLIT` (R124). -/
def execBlit (s : State) : Host.Outcome State Fault Refusal := .next (s.issue (encode .blit) expandBlit)

/-- The bytes of the bulk buffer: each pixel high byte first (R50, R125). -/
def BulkBuffer.bytes (b : BulkBuffer) : List Byte := (List.replicate b.pixels (halfBytes b.colour)).flatten

/-- `FILLSCR color` (R125): the bulk path when it is enabled and the buffer is granted, else the streamed path, which
sets `FALLBACK` if the bulk path was enabled (R22). -/
def expandFillscr (v : View) : Expansion :=
  let c := v.latch.cfg
  let colour := v.latch.half 0
  let n := (c.w * c.h).toNat
  if c.bulkEn && v.grant then
    .items (fullWin c ++ [.tx (Tx.bulk (BulkBuffer.bytes ⟨n, colour⟩))] ++ fullWin c) false (some ⟨n, colour⟩)
  else .items (fullWin c ++ solidPixels n colour ++ fullWin c) c.bulkEn none

/-- `FILLSCR` (R125). -/
def execFillscr (s : State) : Host.Outcome State Fault Refusal := .next (s.issue (encode .fillscr) expandFillscr)

end Sys2Proof.Machine
end

