-- ==== Sys2Proof/Machine/Circle.lean ====
section
/-! DEFINITION. The circle rasterizer (R103 to R107). -/

namespace Sys2Proof.Machine

/-- The loop of `Steps(r)` (R103). `fuel` bounds the number of steps; `a` rises by 1 at each, so `r + 1` suffice. -/
def circleStepsFrom : Nat → Int → Int → Int → List (Int × Int)
  | 0, _, _, _ => []
  | fuel + 1, a, b, d =>
    if a ≤ b then
      (a, b) ::
        (if d < 0 then circleStepsFrom fuel (a + 1) b (d + 4 * a + 6)
         else circleStepsFrom fuel (a + 1) (b - 1) (d + 4 * (a - b) + 10))
    else []

/-- `Steps(r)`: the octant offsets of the midpoint recurrence (R103). -/
def circleSteps (r : Int) : List (Int × Int) := circleStepsFrom (r.toNat + 1) 0 r (3 - 2 * r)

/-- A list without the points equal to an earlier one, the first occurrence kept (R104); `seen` is what came before. -/
def keepFirst (seen : List (Int × Int)) : List (Int × Int) → List (Int × Int)
  | [] => []
  | p :: ps => if p ∈ seen then keepFirst seen ps else p :: keepFirst (p :: seen) ps

/-- `Oct8(xc, yc, a, b)` (R104). -/
def oct8 (xc yc a b : Int) : List (Int × Int) :=
  keepFirst []
    [(xc + a, yc - b), (xc + b, yc - a), (xc + b, yc + a), (xc + a, yc + b),
      (xc - a, yc + b), (xc - b, yc + a), (xc - a, yc - b), (xc - b, yc - a)]

/-- The points of a circle outline, in order (R106). -/
def circlePoints (xc yc r : Int) : List (Int × Int) :=
  (circleSteps r).flatMap fun ab => oct8 xc yc ab.1 ab.2

/-- The points of a filled circle, in order (R107): each step sweeps from its `a` to its `b`. -/
def discPoints (xc yc r : Int) : List (Int × Int) :=
  (circleSteps r).flatMap fun ab => (intRange ab.1 ab.2).flatMap fun i => oct8 xc yc ab.1 i

/-- The acceptance check of the circles (R106, R132): the bounding square is on screen. -/
def circleOnScreen (c : LatchedCfg) (xc yc r : Int) : Bool :=
  decide (r ≤ xc) && decide (r ≤ yc) && decide (xc + r < c.w) && decide (yc + r < c.h)

/-- `CIRCLE xc, yc, r, color` (R106). -/
def expandCircle (v : View) : Expansion :=
  let l := v.latch
  if circleOnScreen l.cfg (l.int 0) (l.int 1) (l.int 2) then
    drawn l.cfg (plots l.cfg (l.half 3) (circlePoints (l.int 0) (l.int 1) (l.int 2)))
  else .error .invalidWindow

/-- `CIRCLE` (R106). -/
def execCircle (s : State) : Host.Outcome State Fault Refusal := .next (s.issue (encode .circle) expandCircle)

/-- `CIRCLEF xc, yc, r, color` (R107). -/
def expandCirclef (v : View) : Expansion :=
  let l := v.latch
  if circleOnScreen l.cfg (l.int 0) (l.int 1) (l.int 2) then
    drawn l.cfg (plots l.cfg (l.half 3) (discPoints (l.int 0) (l.int 1) (l.int 2)))
  else .error .invalidWindow

/-- `CIRCLEF` (R107). -/
def execCirclef (s : State) : Host.Outcome State Fault Refusal := .next (s.issue (encode .circlef) expandCirclef)

end Sys2Proof.Machine
end

