-- ==== Sys2Proof/Machine/Control.lean ====
section
/-! DEFINITION. The control commands: `NOP` and `SETORIENT` (R126, R127). -/

namespace Sys2Proof.Machine

/-- `NOP`: the empty expansion (R126). -/
def expandNop (_ : View) : Expansion := .items [] false none

/-- `NOP` (R126). -/
def execNop (s : State) : Host.Outcome State Fault Refusal := .next (s.issue (encode .nop) expandNop)

/-- `SETORIENT dir` (R127): a direction above 3 is rejected; else the stale window, the memory-access-control command
and its data byte, and the new orientation after both. -/
def expandSetorient (v : View) : Expansion :=
  let c := v.latch.cfg
  let dir := v.latch.nat 0
  if dir > 3 then .error .invalidArgument
  else
    .items
      [.mark .winInvalid, .tx (Tx.cmd c.madctlOpc), .tx (Tx.data8 (c.madctl (BitVec.ofNat 2 dir))),
        .mark (.setOrient (BitVec.ofNat 2 dir))]
      false none

/-- `SETORIENT` (R127). -/
def execSetorient (s : State) : Host.Outcome State Fault Refusal :=
  .next (s.issue (encode .setorient) expandSetorient)

end Sys2Proof.Machine
end

