-- ==== Sys2Proof/Machine/Draw.lean ====
section
/-! DEFINITION. Point, line and rectangle (R97 to R102). -/

namespace Sys2Proof.Machine

/-- `POINT x, y, color` (R99). -/
def expandPoint (v : View) : Expansion :=
  let l := v.latch
  if onScreen l.cfg (l.int 0) (l.int 1) then drawn l.cfg (plot l.cfg (l.half 2) (l.int 0, l.int 1))
  else .error .invalidWindow

/-- `POINT` (R99). -/
def execPoint (s : State) : Host.Outcome State Fault Refusal := .next (s.issue (encode .point) expandPoint)

/-- `|v|` as an integer (R98). -/
def absInt (v : Int) : Int := if v < 0 then -v else v

/-- `sign(v)`: -1, 0 or 1 (R98). -/
def signInt (v : Int) : Int := if v < 0 then -1 else if v = 0 then 0 else 1

/-- One accumulator update of R98: the accumulator, and whether the coordinate moves. -/
def bresenham (e inc d : Int) : Int × Bool :=
  if e + 2 * inc > d then (e + 2 * inc - 2 * d, true) else (e + 2 * inc, false)

/-- The loop of `LineBody` (R98): `n` more points, from accumulators `ex`, `ey` and position `x`, `y`. -/
def linePointsFrom (dx dy d sx sy : Int) : Nat → Int → Int → Int → Int → List (Int × Int)
  | 0, _, _, _, _ => []
  | n + 1, ex, ey, x, y =>
    (x, y) ::
      linePointsFrom dx dy d sx sy n (bresenham ex dx d).1 (bresenham ey dy d).1
        (if (bresenham ex dx d).2 then x + sx else x) (if (bresenham ey dy d).2 then y + sy else y)

/-- The points `LineBody(x0, y0, x1, y1, c)` plots, in order (R98): `max(|dx|, |dy|) + 1` of them. -/
def linePoints (x0 y0 x1 y1 : Int) : List (Int × Int) :=
  let dx := absInt (x1 - x0)
  let dy := absInt (y1 - y0)
  let d := max dx dy
  linePointsFrom dx dy d (signInt (x1 - x0)) (signInt (y1 - y0)) (d.toNat + 1) 0 0 x0 y0

/-- `LineBody(x0, y0, x1, y1, c)` (R98), with no restore. -/
def lineBody (c : LatchedCfg) (x0 y0 x1 y1 : Int) (colour : Half) : List Item :=
  plots c colour (linePoints x0 y0 x1 y1)

/-- `LINE x0, y0, x1, y1, color` (R100). -/
def expandLine (v : View) : Expansion :=
  let l := v.latch
  if onScreen l.cfg (l.int 0) (l.int 1) && onScreen l.cfg (l.int 2) (l.int 3) then
    drawn l.cfg (lineBody l.cfg (l.int 0) (l.int 1) (l.int 2) (l.int 3) (l.half 4))
  else .error .invalidWindow

/-- `LINE` (R100). -/
def execLine (s : State) : Host.Outcome State Fault Refusal := .next (s.issue (encode .line) expandLine)

/-- The points of a rectangle outline (R101): top, left, bottom, right. -/
def rectPoints (x0 y0 x1 y1 : Int) : List (Int × Int) :=
  linePoints x0 y0 x1 y0 ++ linePoints x0 y0 x0 y1 ++ linePoints x0 y1 x1 y1 ++ linePoints x1 y0 x1 y1

/-- `RECT x0, y0, x1, y1, color` (R101). -/
def expandRect (v : View) : Expansion :=
  let l := v.latch
  if validWin l.cfg (l.int 0) (l.int 1) (l.int 2) (l.int 3) then
    drawn l.cfg (plots l.cfg (l.half 4) (rectPoints (l.int 0) (l.int 1) (l.int 2) (l.int 3)))
  else .error .invalidWindow

/-- `RECT` (R101). -/
def execRect (s : State) : Host.Outcome State Fault Refusal := .next (s.issue (encode .rect) expandRect)

/-- `RECTF x0, y0, x1, y1, color` (R102): one window and a row-major flood. -/
def expandRectf (v : View) : Expansion :=
  let l := v.latch
  if validWin l.cfg (l.int 0) (l.int 1) (l.int 2) (l.int 3) then
    drawn l.cfg
      (winSeq l.cfg (l.int 0) (l.int 1) (l.int 2) (l.int 3) ++
        solidPixels ((l.int 2 - l.int 0 + 1) * (l.int 3 - l.int 1 + 1)).toNat (l.half 4))
  else .error .invalidWindow

/-- `RECTF` (R102). -/
def execRectf (s : State) : Host.Outcome State Fault Refusal := .next (s.issue (encode .rectf) expandRectf)

end Sys2Proof.Machine
end

