-- ==== Sys2Proof/Machine/Text.lean ====
section
/-! DEFINITION. The bitmap text glyph rasterizer (R114 to R123). -/

namespace Sys2Proof.Machine

/-- `GW(s)`: the glyph width (R114). -/
def glyphWidth (s : Nat) : Nat := s / 2

/-- `s` in {12, 16} (R114). -/
def glyphSizeOk (s : Nat) : Bool := s == 12 || s == 16

/-- `Printable(b)` (R114). -/
def printable (b : Nat) : Bool := decide (Config.codeMin ≤ b) && decide (b ≤ Config.codeMax)

/-- The cells of a glyph, row by row and within a row column by column (R115): `(column, row)`. -/
def glyphCells (s : Nat) : List (Nat × Nat) :=
  (List.range s).flatMap fun r => (List.range (glyphWidth s)).map fun col => (col, r)

/-- `Glyph(x, y, fg, bg, code, s, ov)` (R115): one window and every pixel of the cell, or in overlay mode one plot
for each foreground pixel (R116). -/
def glyph (c : LatchedCfg) (rom : GlyphRom) (x y : Int) (fg bg : Half) (code s : Nat) (ov : Bool) : List Item :=
  match ov with
  | false =>
    winSeq c x y (x + (glyphWidth s : Int) - 1) (y + (s : Int) - 1) ++
      (glyphCells s).map fun p => .tx (Tx.data16 (if rom.bit s code p.2 p.1 then fg else bg))
  | true =>
    plots c fg
      (((glyphCells s).filter fun p => rom.bit s code p.2 p.1).map fun p => (x + (p.1 : Int), y + (p.2 : Int)))

/-- The glyphs of a run of codes at `x`, `x + w`, `x + 2w`, … (R120, R121, R123). -/
def glyphRun (c : LatchedCfg) (rom : GlyphRom) (y : Int) (fg bg : Half) (s : Nat) (ov : Bool) :
    Int → List Nat → List Item
  | _, [] => []
  | x, code :: codes =>
    glyph c rom x y fg bg code s ov ++ glyphRun c rom y fg bg s ov (x + (glyphWidth s : Int)) codes

/-- `body` emitted at least one transaction (R117). -/
def emitsTx : List Item → Bool
  | [] => false
  | .tx _ :: _ => true
  | .mark _ :: is => emitsTx is

/-- `Finish(body)` (R117): the restore follows only a body that emitted something. -/
def finish (c : LatchedCfg) (body : List Item) : Expansion :=
  if emitsTx body then drawn c body else .items [] false none

/-- `Str(addr, len)` (R118): a counted byte string of the source memory. -/
def strBytes (m : List Host.Cell) (addr len : Nat) : List Nat :=
  (List.range len).map fun i => memRead m ((addr + i) % 2 ^ 32) 1

/-- `Pr(addr, len)` (R118): its printable bytes, in order. -/
def printableBytes (m : List Host.Cell) (addr len : Nat) : List Nat := (strBytes m addr len).filter printable

/-- A glyph cell run fits the screen: `x + n*GW(s) - 1 < WIDTH` and `y + s - 1 < HEIGHT` (R132). -/
def runFits (c : LatchedCfg) (x y : Int) (n s : Nat) : Bool :=
  decide (x + (n : Int) * (glyphWidth s : Int) - 1 < c.w) && decide (y + (s : Int) - 1 < c.h)

/-- `TEXTCHAR[.OV] x, y, fg, bg, code, size` (R119), the checks in the order of R133. -/
def expandTextchar (ov : Bool) (v : View) : Expansion :=
  let l := v.latch
  let code := l.nat 4
  let s := l.nat 5
  if !glyphSizeOk s then .error .unsupportedGlyphSize
  else if !printable code then .error .invalidArgument
  else if !runFits l.cfg (l.int 0) (l.int 1) 1 s then .error .invalidWindow
  else finish l.cfg (glyph l.cfg v.rom (l.int 0) (l.int 1) (l.half 2) (l.half 3) code s ov)

/-- `TEXTCHAR[.OV]` (R119). -/
def execTextchar (ov : Bool) (s : State) : Host.Outcome State Fault Refusal :=
  .next (s.issue (encode (.textchar ov)) (expandTextchar ov))

/-- `TEXTSTR[.OV] x, y, fg, bg, len, size, addr` (R120): the printable bytes on one line. -/
def expandTextstr (ov : Bool) (v : View) : Expansion :=
  let l := v.latch
  let s := l.nat 5
  let codes := printableBytes v.mem l.wide.toNat (l.nat 4)
  if !glyphSizeOk s then .error .unsupportedGlyphSize
  else if codes.isEmpty then .items [] false none
  else if !runFits l.cfg (l.int 0) (l.int 1) codes.length s then .error .invalidWindow
  else finish l.cfg (glyphRun l.cfg v.rom (l.int 1) (l.half 2) (l.half 3) s ov (l.int 0) codes)

/-- `TEXTSTR[.OV]` (R120). -/
def execTextstr (ov : Bool) (s : State) : Host.Outcome State Fault Refusal :=
  .next (s.issue (encode (.textstr ov)) (expandTextstr ov))

/-- `TEXTCTR[.OV] fg, bg, len, size, addr` (R121): the printable bytes centred on the screen. -/
def expandTextctr (ov : Bool) (v : View) : Expansion :=
  let l := v.latch
  let s := l.nat 5
  let codes := printableBytes v.mem l.wide.toNat (l.nat 4)
  let run : Int := (codes.length : Int) * (glyphWidth s : Int)
  if !glyphSizeOk s then .error .unsupportedGlyphSize
  else if codes.isEmpty then .items [] false none
  else if run > l.cfg.w ∨ (s : Int) > l.cfg.h then .error .invalidWindow
  else
    finish l.cfg
      (glyphRun l.cfg v.rom ((l.cfg.h - (s : Int)) / 2) (l.half 2) (l.half 3) s ov ((l.cfg.w - run) / 2) codes)

/-- `TEXTCTR[.OV]` (R121). -/
def execTextctr (ov : Bool) (s : State) : Host.Outcome State Fault Refusal :=
  .next (s.issue (encode (.textctr ov)) (expandTextctr ov))

/-- The loop of `Digits(v, n)` (R122): `k` positions left, the last of them the units; `shown` says whether a
non-zero digit came before. -/
def digitCodesFrom (v : Nat) : Nat → Bool → List Nat
  | 0, _ => []
  | k + 1, shown =>
    if v / 10 ^ k % 10 = 0 ∧ shown = false ∧ 0 < k then 0x20 :: digitCodesFrom v k false
    else (0x30 + v / 10 ^ k % 10) :: digitCodesFrom v k true

/-- `Digits(v, n)` (R122). -/
def digitCodes (v n : Nat) : List Nat := digitCodesFrom v n false

/-- `NUMERIC[.OV] x, y, fg, bg, digit_count, size, value` (R123): the no-op comes before every check (R133). -/
def expandNumeric (ov : Bool) (v : View) : Expansion :=
  let l := v.latch
  let n := l.nat 4
  let s := l.nat 5
  if n = 0 then .items [] false none
  else if !glyphSizeOk s then .error .unsupportedGlyphSize
  else if !runFits l.cfg (l.int 0) (l.int 1) n s then .error .invalidWindow
  else
    finish l.cfg
      (glyphRun l.cfg v.rom (l.int 1) (l.half 2) (l.half 3) s ov (l.int 0) (digitCodes l.wide.toNat n))

/-- `NUMERIC[.OV]` (R123). -/
def execNumeric (ov : Bool) (s : State) : Host.Outcome State Fault Refusal :=
  .next (s.issue (encode (.numeric ov)) (expandNumeric ov))

end Sys2Proof.Machine
end

