-- ==== Sys2Proof/Machine/Transport.lean ====
section
/-! DEFINITION. The bus transport commands `WRCMD`, `WRDATA8`, `WRDATA16` (R89 to R91). -/

namespace Sys2Proof.Machine

/-- `WRCMD byte` (R89): the window becomes unknown, then one command byte. -/
def expandWrcmd (v : View) : Expansion :=
  .items [.mark .winInvalid, .tx (Tx.cmd (v.latch.byte 0))] false none

/-- `WRCMD` (R89). -/
def execWrcmd (s : State) : Host.Outcome State Fault Refusal := .next (s.issue (encode .wrcmd) expandWrcmd)

/-- `WRDATA8 byte` (R90): one data byte. -/
def expandWrdata8 (v : View) : Expansion := .items [.tx (Tx.data8 (v.latch.byte 0))] false none

/-- `WRDATA8` (R90). -/
def execWrdata8 (s : State) : Host.Outcome State Fault Refusal := .next (s.issue (encode .wrdata8) expandWrdata8)

/-- `WRDATA16 value` (R91): one 16-bit data value, high byte first. -/
def expandWrdata16 (v : View) : Expansion := .items [.tx (Tx.data16 (v.latch.half 0))] false none

/-- `WRDATA16` (R91). -/
def execWrdata16 (s : State) : Host.Outcome State Fault Refusal := .next (s.issue (encode .wrdata16) expandWrdata16)

end Sys2Proof.Machine
end

