-- ==== Sys2Proof/Machine/Triangle.lean ====
section
/-! DEFINITION. The triangle rasterizer and scanline fill engine (R108 to R113). -/

namespace Sys2Proof.Machine

/-- One painted scanline: its row, its first and its last column (R108). -/
abbrev ScanSpan := Int × Int × Int

/-- `Span(a, b, y, c)` (R108): one window and its pixels, no restore. The span is `(y, a, b)`. -/
def spanItems (c : LatchedCfg) (colour : Half) (p : ScanSpan) : List Item :=
  winSeq c p.2.1 p.1 p.2.2 p.1 ++ solidPixels (p.2.2 - p.2.1 + 1).toNat colour

/-- A conditional swap of two vertices by their rows (R109). -/
def swapByRow (p q : Int × Int) : (Int × Int) × (Int × Int) := if p.2 > q.2 then (q, p) else (p, q)

/-- `SortY(p0, p1, p2)` (R109): three conditional swaps in this order. -/
def sortY (p0 p1 p2 : Int × Int) : (Int × Int) × (Int × Int) × (Int × Int) :=
  let s1 := swapByRow p0 p1
  let s2 := swapByRow s1.2 p2
  let s3 := swapByRow s1.1 s2.1
  (s3.1, s3.2, s2.2)

/-- A span's columns in order: `if a > b: swap(a, b)` (R110). -/
def orderedSpan (y a b : Int) : ScanSpan := if a > b then (y, b, a) else (y, a, b)

/-- One half of the fill (R110): `n` rows from `y` down, the left edge starting at `xa` with accumulator `sa`, slope
`dxa/dya`, the right edge at `xb` with `sb`, slope `dxb/dyb`; `div_t` truncates toward zero (R6). -/
def scanRows (xa dxa dya xb dxb dyb : Int) : Nat → Int → Int → Int → List ScanSpan
  | 0, _, _, _ => []
  | n + 1, y, sa, sb =>
    orderedSpan y (xa + Int.tdiv sa dya) (xb + Int.tdiv sb dyb) ::
      scanRows xa dxa dya xb dxb dyb n (y + 1) (sa + dxa) (sb + dxb)

/-- The spans of the fill of a triangle whose vertices are sorted by row (R110). -/
def sortedSpans (p0 p1 p2 : Int × Int) : List ScanSpan :=
  if p0.2 = p2.2 then [(p0.2, min p0.1 (min p1.1 p2.1), max p0.1 (max p1.1 p2.1))]
  else
    let last := if p1.2 = p2.2 then p1.2 else p1.2 - 1
    let dx02 := p2.1 - p0.1
    let dy02 := p2.2 - p0.2
    let dx12 := p2.1 - p1.1
    let mid := last + 1
    scanRows p0.1 (p1.1 - p0.1) (p1.2 - p0.2) p0.1 dx02 dy02 (last - p0.2 + 1).toNat p0.2 0 0 ++
      scanRows p1.1 dx12 (p2.2 - p1.2) p0.1 dx02 dy02 (p2.2 - mid + 1).toNat mid
        (dx12 * (mid - p1.2)) (dx02 * (mid - p0.2))

/-- The spans of `TriFillBody(p0, p1, p2, c)`, in order (R110). -/
def triangleSpans (p0 p1 p2 : Int × Int) : List ScanSpan :=
  let s := sortY p0 p1 p2
  sortedSpans s.1 s.2.1 s.2.2

/-- The points of a triangle outline (R112): the edges in operand order. -/
def trianglePoints (p0 p1 p2 : Int × Int) : List (Int × Int) :=
  linePoints p0.1 p0.2 p1.1 p1.2 ++ linePoints p1.1 p1.2 p2.1 p2.2 ++ linePoints p2.1 p2.2 p0.1 p0.2

/-- Vertex `k` of the operands: `(A[2k], A[2k+1])` for `k` 0, 1, 2 (R77). -/
def Latch.vertex (l : Latch) (k : Fin 3) : Int × Int :=
  match k with
  | 0 => (l.int 0, l.int 1)
  | 1 => (l.int 2, l.int 3)
  | 2 => (l.int 4, l.int 5)

/-- The acceptance check of the triangles (R112, R132): all three vertices on screen. -/
def verticesOnScreen (l : Latch) : Bool :=
  onScreen l.cfg (l.int 0) (l.int 1) && onScreen l.cfg (l.int 2) (l.int 3) && onScreen l.cfg (l.int 4) (l.int 5)

/-- `TRI x0, y0, x1, y1, x2, y2, color` (R112). -/
def expandTri (v : View) : Expansion :=
  let l := v.latch
  if verticesOnScreen l then
    drawn l.cfg (plots l.cfg (l.half 6) (trianglePoints (l.vertex 0) (l.vertex 1) (l.vertex 2)))
  else .error .invalidWindow

/-- `TRI` (R112). -/
def execTri (s : State) : Host.Outcome State Fault Refusal := .next (s.issue (encode .tri) expandTri)

/-- `TRIF x0, y0, x1, y1, x2, y2, color` (R113). -/
def expandTrif (v : View) : Expansion :=
  let l := v.latch
  if verticesOnScreen l then
    drawn l.cfg ((triangleSpans (l.vertex 0) (l.vertex 1) (l.vertex 2)).flatMap (spanItems l.cfg (l.half 6)))
  else .error .invalidWindow

/-- `TRIF` (R113). -/
def execTrif (s : State) : Host.Outcome State Fault Refusal := .next (s.issue (encode .trif) expandTrif)

end Sys2Proof.Machine
end

