-- ==== Sys2Proof/Machine/Expand.lean ====
section
/-! DEFINITION. `Expand` (R75): the expansion of a command, and what the running command makes of source bytes that
change under it (R46, R152): its whole expansion is always `Expand` of one mixture of old and new values. -/

namespace Sys2Proof.Machine

/-- The expansion of a decoded command: its family rule (R75). -/
def expandOf : Instr → View → Expansion
  | .nop => expandNop
  | .wrcmd => expandWrcmd
  | .wrdata8 => expandWrdata8
  | .wrdata16 => expandWrdata16
  | .setwin => expandSetwin
  | .setorient => expandSetorient
  | .point => expandPoint
  | .line => expandLine
  | .rect => expandRect
  | .rectf => expandRectf
  | .circle => expandCircle
  | .circlef => expandCirclef
  | .tri => expandTri
  | .trif => expandTrif
  | .textchar ov => expandTextchar ov
  | .textstr ov => expandTextstr ov
  | .textctr ov => expandTextctr ov
  | .numeric ov => expandNumeric ov
  | .blit => expandBlit
  | .fillscr => expandFillscr

/-- `Expand(w, L, M, g)` of R75: an illegal word is `ILLEGAL_COMMAND`. -/
def expandWord (w : Word) (v : View) : Expansion :=
  match decode w with
  | .ok i => expandOf i v
  | .error _ => .error .illegalCommand

/-- What the running command is expanded from if it sees the memory `m`. -/
def State.runningView (s : State) (m : List Host.Cell) : View := ⟨s.latch, m, s.rom, s.seenGrant⟩

/-- The expansion of the running command if it reads the memory `m`. -/
def State.expansionSeeing (s : State) (m : List Host.Cell) : Expansion :=
  expandWord s.latch.word (s.runningView m)

/-- A memory with some racing bytes at their new values (R46): a mixture of old and new values. -/
def memWith : List Host.Cell → List RacingByte → List Host.Cell
  | m, [] => m
  | m, b :: bs => memWith (Memory.writeByte m b.addr.toNat b.value) bs

/-- `M[addr] <- b`, by the platform (R44, R47). A running command can read the byte late, so the write is noted (R46). -/
def State.platformWrite (s : State) (addr : Word) (b : Byte) : State :=
  { s with
    mem := Memory.writeByte s.mem addr.toNat b
    racing := if s.busy then s.racing ++ [⟨addr, b⟩] else s.racing }

/-- The expansion `its` begins with the items the running command has already performed. -/
def State.agreesWith (s : State) (its : List Item) : Bool :=
  its.take s.performed == (s.expansionSeeing s.seenMem).list.take s.performed

/-- The running command reads its bytes from the memory `m` from now on, its whole expansion being `its`; it is finished
if that leaves nothing to do. -/
def State.goOnSeeing (s : State) (m : List Host.Cell) (its : List Item) : State :=
  { s with
    seenMem := m
    q := its.drop s.performed
    phase := if its.drop s.performed = [] then .idle else .busy
    bulk := if its.drop s.performed = [] then none else s.bulk }

/-- The running command makes of the mixture `m` what the rest of its expansion allows (R46; log entry 8): it goes on
with `Expand` of `m` if the items already performed are the first ones of that too; otherwise the bytes have already been
used and keep their old values. So they do where `Expand` of `m` is an error: a command that is running has passed its
checks and is not rejected any more (R134), and no glyph or window is sent that does not fit (R93, R115). -/
def State.adoptMemory (s : State) (m : List Host.Cell) : State :=
  match s.expansionSeeing m with
  | .error _ => s
  | .items its _ _ => if s.agreesWith its then s.goOnSeeing m its else s

/-- The running command reads `bytes` late (R46): each must be a value the platform wrote under it. A command whose
transaction will never be answered reads no more (R136). -/
def State.lateRead (s : State) (bytes : List RacingByte) : State :=
  if s.busy && !s.stalled && bytes.all (fun b => s.racing.contains b) then s.adoptMemory (memWith s.seenMem bytes)
  else s

end Sys2Proof.Machine
end

