-- ==== Sys2Proof/Machine/Dispatch.lean ====
section
/-! DEFINITION. One arm per command of the table (R74, R75). -/

namespace Sys2Proof.Machine

/-- A host issues the command `i` (R18, R35). -/
def exec (i : Instr) (s : State) : Host.Outcome State Fault Refusal :=
  match i with
  | .nop => Sys2Proof.Machine.execNop s
  | .wrcmd => Sys2Proof.Machine.execWrcmd s
  | .wrdata8 => Sys2Proof.Machine.execWrdata8 s
  | .wrdata16 => Sys2Proof.Machine.execWrdata16 s
  | .setwin => Sys2Proof.Machine.execSetwin s
  | .setorient => Sys2Proof.Machine.execSetorient s
  | .point => Sys2Proof.Machine.execPoint s
  | .line => Sys2Proof.Machine.execLine s
  | .rect => Sys2Proof.Machine.execRect s
  | .rectf => Sys2Proof.Machine.execRectf s
  | .circle => Sys2Proof.Machine.execCircle s
  | .circlef => Sys2Proof.Machine.execCirclef s
  | .tri => Sys2Proof.Machine.execTri s
  | .trif => Sys2Proof.Machine.execTrif s
  | .textchar ov => Sys2Proof.Machine.execTextchar ov s
  | .textstr ov => Sys2Proof.Machine.execTextstr ov s
  | .textctr ov => Sys2Proof.Machine.execTextctr ov s
  | .numeric ov => Sys2Proof.Machine.execNumeric ov s
  | .blit => Sys2Proof.Machine.execBlit s
  | .fillscr => Sys2Proof.Machine.execFillscr s

end Sys2Proof.Machine
end

