-- ==== Sys2Proof/Machine/Events.lean ====
section
/-! DEFINITION. One move of one agent (R13): a host access, the engine's step with the bus's answer, a reset, a
platform write to the source memory, a late read of it by the running command. -/

namespace Sys2Proof.Machine

/-- A host write of `w` to `CMD` (R18): the decoded command runs; an illegal word is `ILLEGAL_COMMAND` (R78). -/
def issueWord (w : Word) (s : State) : Host.Outcome State Fault Refusal :=
  match decode w with
  | .ok i => exec i s
  | .error _ => execIllegal w s

/-- A host write (R14 to R18): ignored at a reserved offset (R15), a command issue at `CMD` (R18). -/
def hostWrite (off : Offset) (v : Word) (s : State) : Host.Outcome State Fault Refusal :=
  match Reg.ofOffset off with
  | none => .next s
  | some .cmd => issueWord v s
  | some r => .next (s.guardedWrite r v)

/-- The move `e` made in state `s`. -/
def perform (e : Event) (s : State) : Host.Outcome State Fault Refusal :=
  match e with
  | .hostRead off => .next (s.hostRead off)
  | .hostWrite off v => hostWrite off v s
  | .engine ans => .next (s.engineStep ans)
  | .reset cut => .next (s.resetCore cut)
  | .memWrite addr b => .next (s.platformWrite addr b)
  | .lateRead bytes => .next (s.lateRead bytes)

/-- The next move taken off the agenda. -/
def State.withAgenda (s : State) (a : List Event) : State := { s with agenda := a }

/-- One step of the machine: the next move of the agenda; with no move left, nothing happens (log entry 6). -/
def stepOnce (s : State) : Host.Outcome State Fault Refusal :=
  match s.agenda with
  | [] => .next s
  | e :: rest => perform e (s.withAgenda rest)

/-- `s` about to run the command word `w`: the next move is a host write of it to `CMD`, with the engine idle. -/
def State.aboutToIssue (s : State) (w : Word) : State :=
  { s with
    agenda := .hostWrite 0x00#7 w :: s.agenda
    phase := .idle
    q := []
    stalled := false
    bulk := none }

end Sys2Proof.Machine
end

