-- ==== Sys2Proof/Machine/Step.lean ====
section
/-! DEFINITION. The step function: the next move of the agenda (R13). -/

namespace Sys2Proof.Machine

/-- One step of the machine (R13). -/
def step (s : State) : Host.Outcome State Fault Refusal := stepOnce s

/-- `s` whose next step issues the table word `w` of `nbits` bits, as a host write to `CMD` (R18, R51; log entry 9). -/
def State.withFetchWord (s : State) (nbits w : Nat) : State := s.aboutToIssue (BitVec.ofNat 32 (w % 2 ^ nbits))

end Sys2Proof.Machine
end

