-- ==== Sys2Proof/Machine/HostProgram.lean ====
section
/-! DEFINITION. Host programs (R81, R82): the host accesses that a line expands to, the loop of `WAIT`, and a host that
runs a program beside the core's other agents. The host's program is no state of the core (R128). -/

namespace Sys2Proof.Machine

/-- What the host does at one point of its program (R81): one register access, or the loop of `WAIT`, which reads
`STATUS` and stays where it is until it has read `BUSY = 0`. -/
inductive HostOp where
  | write (off : Offset) (v : Word)
  | read (off : Offset)
  | poll
deriving DecidableEq, Repr

/-- The register access of an operation (R14); that of `WAIT`'s loop is `RD STATUS` (R82). -/
def HostOp.access : HostOp → Event
  | .write off v => .hostWrite off v
  | .read off => .hostRead off
  | .poll => .hostRead Reg.status.offset

/-- What the host still has to do once an operation's access has been made, `data` being the value read: the loop of
`WAIT` ends when bit 0 of `STATUS` reads 0 (R81, R82). -/
def HostOp.following (op : HostOp) (rest : List HostOp) (data : Word) : List HostOp :=
  match op with
  | .write _ _ => rest
  | .read _ => rest
  | .poll => if data.getLsbD 0 then .poll :: rest else rest

/-- The argument-register writes of one operand (R76, R82): a 32-bit operand is split into its `A6` and `A7` writes. -/
def operandWrites (sl : OperandSlot) (v : Nat) : List HostOp :=
  match sl with
  | .byte i => [.write (Reg.arg i).offset (BitVec.ofNat 32 v)]
  | .half i => [.write (Reg.arg i).offset (BitVec.ofNat 32 v)]
  | .wide =>
    [.write (Reg.arg 6).offset (BitVec.ofNat 32 (v % 2 ^ 16)), .write (Reg.arg 7).offset (BitVec.ofNat 32 (v / 2 ^ 16))]

/-- A command line's host writes (R82): its argument registers in ascending order, then `CMD`. -/
def commandOps (c : CommandLine) : List HostOp :=
  ((c.instr.slots.zip c.operands).flatMap fun p => operandWrites p.1 p.2) ++ [.write Reg.cmd.offset (encode c.instr)]

/-- The accesses of a command line as moves of the machine. -/
def commandAccesses (c : CommandLine) : List Event := (commandOps c).map HostOp.access

/-- A line of a host program (R81). -/
inductive HostLine where
  | wr (r : Reg) (v : Word)
  | rd (r : Reg)
  | wait
  | command (c : CommandLine)
deriving DecidableEq, Repr

/-- What the host does for a line (R81, R82). -/
def HostLine.ops : HostLine → List HostOp
  | .wr r v => [.write r.offset v]
  | .rd r => [.read r.offset]
  | .wait => [.poll]
  | .command c => commandOps c

/-- What the host does for a program: its lines in order (R81). -/
def programOps (p : List HostLine) : List HostOp := p.flatMap HostLine.ops

/-- A core, and a host with what it has still to do of its program. -/
structure HostRun where
  core : State
  ops : List HostOp
deriving DecidableEq, Repr

/-- Whose move is next (R13): the host's, or that of another agent. -/
inductive Turn where
  | host
  | other (e : Event)
deriving DecidableEq, Repr

/-- The run after a move of the core, `ops` being what the host has still to do in the state reached. -/
def HostRun.reach (o : Host.Outcome State Fault Refusal) (ops : State → List HostOp) :
    Host.Outcome HostRun Fault Refusal :=
  match o with
  | .next t => .next ⟨t, ops t⟩
  | .fault f => .fault f
  | .refused r => .refused r

/-- One move (R13): the host makes the access of its next operation, or another agent moves. A host whose program has
ended makes no access. -/
def HostRun.turn (r : HostRun) : Turn → Host.Outcome HostRun Fault Refusal
  | .host =>
    match r.ops with
    | [] => .next r
    | op :: rest => HostRun.reach (perform op.access r.core) fun t => op.following rest t.readData
  | .other e => HostRun.reach (perform e r.core) fun _ => r.ops

/-- The moves of some turns, in order. -/
def HostRun.turns (r : HostRun) : List Turn → Host.Outcome HostRun Fault Refusal
  | [] => .next r
  | t :: ts =>
    match r.turn t with
    | .next r' => r'.turns ts
    | .fault f => .fault f
    | .refused x => .refused x

end Sys2Proof.Machine
end

