-- ==== Sys2Proof/Machine/Panel.lean ====
section
/-! DEFINITION. The panel observer (R60 to R68): an interpretation of the transaction stream, not state of the core. -/

namespace Sys2Proof.Machine

/-- What the observer takes as given (R60): the panel's opcodes, the core's `MADCTL` table and orientation, and the
panel's dimensions in that orientation. -/
structure PanelParams where
  caset : Byte
  raset : Byte
  ramwr : Byte
  madctl : Byte
  table0 : Byte
  table1 : Byte
  table2 : Byte
  table3 : Byte
  width : Nat
  height : Nat
  orient : BitVec 2
deriving DecidableEq, Repr

/-- The observer's mode (R60). -/
inductive PanelMode where
  | idle
  | col (bs : List Byte)
  | row (bs : List Byte)
  | ram (pend : Option Byte)
  | mad
  | foreign
  | corrupt
deriving DecidableEq, Repr

/-- The observer's state (R60). The window registers and the pointer are none while unknown; `pixels` lists the
colour of each pixel known, latest first, a pixel not listed being `unknown`; `writes` lists the pixel writes
performed, oldest first (R68). `width`, `height` and `orient` are the observer's own, swapped by R65. -/
structure Panel where
  mode : PanelMode
  xs : Option Half
  xe : Option Half
  ys : Option Half
  ye : Option Half
  pointer : Option (Nat × Nat)
  pixels : List ((Nat × Nat) × Half)
  tainted : Bool
  width : Nat
  height : Nat
  orient : BitVec 2
  writes : List (Nat × Nat × Half)
deriving DecidableEq, Repr

/-- The observer's initial state (R60). -/
def Panel.initial (p : PanelParams) : Panel where
  mode := .idle
  xs := none
  xe := none
  ys := none
  ye := none
  pointer := none
  pixels := []
  tainted := false
  width := p.width
  height := p.height
  orient := p.orient
  writes := []

/-- `G(x, y)`: none is `unknown` (R60). -/
def Panel.pixel (o : Panel) (x y : Nat) : Option Half := (o.pixels.find? fun q => q.1 == (x, y)).map Prod.snd

/-- The observer's parameters when the panel matches the core's registers, the premise of a claim that uses it. -/
def State.panelParams (s : State) : PanelParams where
  caset := s.opcCaset
  raset := s.opcRaset
  ramwr := s.opcRamwr
  madctl := s.opcMadctl
  table0 := s.madctl0
  table1 := s.madctl1
  table2 := s.madctl2
  table3 := s.madctl3
  width := s.width.toNat
  height := s.height.toNat
  orient := s.orient

/-- The pixel pointer at the window's origin (R61). -/
def Panel.origin (o : Panel) : Option (Nat × Nat) :=
  match o.xs, o.ys with
  | some x, some y => some (x.toNat, y.toNat)
  | _, _ => none

/-- A command byte that arrives in the middle of a pixel or of a window parameter list taints (R61). -/
def PanelMode.interrupted : PanelMode → Bool
  | .ram (some _) => true
  | .col _ => true
  | .row _ => true
  | .ram none => false
  | .idle => false
  | .mad => false
  | .foreign => false
  | .corrupt => false

/-- A command byte (R61, R66). -/
def Panel.commandByte (p : PanelParams) (o : Panel) (b : Byte) : Panel :=
  let o1 := { o with tainted := o.tainted || o.mode.interrupted }
  if b = p.caset then { o1 with mode := .col [] }
  else if b = p.raset then { o1 with mode := .row [] }
  else if b = p.madctl then { o1 with mode := .mad }
  else if b = p.ramwr then { o1 with mode := .ram none, pointer := o.origin }
  else { o1 with mode := .foreign, tainted := true }

/-- The pointer after a pixel write: row-major, wrapping to the window's origin (R64). -/
def nextPixel (xs xe ys ye : Nat) (p : Nat × Nat) : Nat × Nat :=
  if p.1 + 1 > xe then (if p.2 + 1 > ye then (xs, ys) else (xs, p.2 + 1)) else (p.1 + 1, p.2)

/-- The window is proper: `XS <= XE < W` and `YS <= YE < H` (R63). -/
def properWindow (xs xe ys ye : Half) (w h : Nat) : Bool :=
  decide (xs.toNat ≤ xe.toNat) && decide (xe.toNat < w) && decide (ys.toNat ≤ ye.toNat) && decide (ye.toNat < h)

/-- A whole pixel value arrives (R63): it is written at the pointer, which advances (R64); if the window is not proper,
nothing is written and the observer is tainted. DESIGN CHOICE (log entry 10): the pointer advances in a window that is
not proper too, and a window that is not known counts as not proper, its pointer staying as it is. -/
def Panel.writePixel (o : Panel) (v : Half) : Panel :=
  match o.xs, o.xe, o.ys, o.ye, o.pointer with
  | some xs, some xe, some ys, some ye, some pt =>
    if properWindow xs xe ys ye o.width o.height then
      { o with
        mode := .ram none
        pixels := (pt, v) :: o.pixels
        writes := o.writes ++ [(pt.1, pt.2, v)]
        pointer := some (nextPixel xs.toNat xe.toNat ys.toNat ye.toNat pt) }
    else
      { o with
        mode := .ram none
        tainted := true
        pointer := some (nextPixel xs.toNat xe.toNat ys.toNat ye.toNat pt) }
  | _, _, _, _, _ => { o with mode := .ram none, tainted := true }

/-- The orientation whose table entry is `b`, the lowest one if several are equal (R65; log entry 10). -/
def PanelParams.orientOf (p : PanelParams) (b : Byte) : Option (BitVec 2) :=
  if b = p.table0 then some 0#2
  else if b = p.table1 then some 1#2
  else if b = p.table2 then some 2#2
  else if b = p.table3 then some 3#2
  else none

/-- The memory-access-control value arrives (R65): every pixel becomes unknown; the dimensions swap if `ORIENT[0]`
changes; a value of no table entry taints. DESIGN CHOICE (log entry 10): such a value leaves the orientation and the
dimensions as they are. -/
def Panel.accessControl (p : PanelParams) (o : Panel) (b : Byte) : Panel :=
  match p.orientOf b with
  | some d =>
    if d.getLsbD 0 = o.orient.getLsbD 0 then { o with mode := .idle, pixels := [], orient := d }
    else { o with mode := .idle, pixels := [], orient := d, width := o.height, height := o.width }
  | none => { o with mode := .idle, pixels := [], tainted := true }

/-- A data byte (R62, R63, R65, R66, R67). -/
def Panel.dataByte (p : PanelParams) (o : Panel) (b : Byte) : Panel :=
  match o.mode with
  | .col [h0, l0, h1] => { o with mode := .idle, xs := some (h0 ++ l0), xe := some (h1 ++ b) }
  | .col bs => { o with mode := .col (bs ++ [b]) }
  | .row [h0, l0, h1] => { o with mode := .idle, ys := some (h0 ++ l0), ye := some (h1 ++ b) }
  | .row bs => { o with mode := .row (bs ++ [b]) }
  | .ram none => { o with mode := .ram (some b) }
  | .ram (some h) => o.writePixel (h ++ b)
  | .mad => Panel.accessControl p o b
  | .idle => o
  | .foreign => o
  | .corrupt => o

/-- One byte of the stream with its transaction's select level (R60). -/
def Panel.byte (p : PanelParams) (o : Panel) (dc : Dc) (b : Byte) : Panel :=
  match dc with
  | .command => Panel.commandByte p o b
  | .data => Panel.dataByte p o b

/-- The bytes of one transaction, in order (R60). -/
def Panel.bytes (p : PanelParams) (o : Panel) (dc : Dc) (bs : List Byte) : Panel :=
  bs.foldl (fun o b => Panel.byte p o dc b) o

/-- What the bus carried reaches the panel: a whole transaction, or the first bytes of a broken one, after which the
panel's state is unknown (R67, R149). -/
def Panel.busEvent (p : PanelParams) (o : Panel) : BusEvent → Panel
  | .carried t => Panel.bytes p o t.dc t.bytes
  | .broken t k =>
    { Panel.bytes p o t.dc (t.bytes.take k) with mode := .corrupt, tainted := true, pixels := [] }

/-- The observer after a stream, from state `o`. -/
def Panel.observe (p : PanelParams) (o : Panel) (stream : List BusEvent) : Panel :=
  stream.foldl (fun o e => Panel.busEvent p o e) o

/-- `Writes(S)` (R68): the pixel writes of a stream of whole transactions, from `mode = Idle`. -/
def panelWrites (p : PanelParams) (ts : List Tx) : List (Nat × Nat × Half) :=
  (Panel.observe p (Panel.initial p) (ts.map BusEvent.carried)).writes

/-- `Pixels(S)` (R68): the set of the pixels written, as a list without repeats. -/
def panelPixels (p : PanelParams) (ts : List Tx) : List (Nat × Nat) :=
  ((panelWrites p ts).map fun w => (w.1, w.2.1)).eraseDups

end Sys2Proof.Machine
end

