-- ==== Sys2Proof/Machine/Wire.lean ====
section
/-! DEFINITION. What a transaction looks like on the four wires (R52): chip-select, command/data-select, the data line
and the clock, bit 7 of each byte first. No rule of the core depends on it (R159). -/

namespace Sys2Proof.Machine

/-- A level change on one of the four wires (R52). -/
inductive WireEvent where
  /-- chip-select asserted: it is active low -/
  | selectLow
  /-- chip-select deasserted -/
  | selectHigh
  /-- command/data-select driven -/
  | dcLevel (dc : Dc)
  /-- the data line driven -/
  | dataLevel (bit : Bool)
  /-- the clock's rising edge, at which the panel samples the data line (SPI mode 0) -/
  | clockRise
  /-- the clock's falling edge -/
  | clockFall
deriving DecidableEq, Repr

/-- One bit (R52): the data line is driven while the clock is low, and sampled at its rising edge. -/
def bitWire (bit : Bool) : List WireEvent := [.dataLevel bit, .clockRise, .clockFall]

/-- The bits of a byte in the order they are shifted out, bit 7 first (R52). -/
def byteBits (b : Byte) : List Bool :=
  [b.getLsbD 7, b.getLsbD 6, b.getLsbD 5, b.getLsbD 4, b.getLsbD 3, b.getLsbD 2, b.getLsbD 1, b.getLsbD 0]

/-- The bytes `bs` of a transaction with select level `dc`, under one chip-select assertion (R52). -/
def wireOf (dc : Dc) (bs : List Byte) : List WireEvent :=
  [.selectLow, .dcLevel dc] ++ (bs.flatMap byteBits).flatMap bitWire ++ [.selectHigh]

/-- A bus event on the wires: a broken transaction ends after the bytes that were sent (R54, R149). R149 says so for
a reset. DESIGN CHOICE (log entry 22): a transaction answered `Fault(k)` looks the same, chip-select being asserted,
`k` whole bytes shifted out and chip-select deasserted, for `k = 0` too. -/
def BusEvent.wire : BusEvent → List WireEvent
  | .carried t => wireOf t.dc t.bytes
  | .broken t k => wireOf t.dc (t.bytes.take k)

/-- The level of the clock after an event; it idles low (R52). -/
def WireEvent.clockAfter (clock : Bool) : WireEvent → Bool
  | .clockRise => true
  | .clockFall => false
  | .selectLow => clock
  | .selectHigh => clock
  | .dcLevel _ => clock
  | .dataLevel _ => clock

/-- The bits a panel receives: the data line, sampled at each rising edge of the clock (R52). -/
def sampledBits : Bool → List WireEvent → List Bool
  | _, [] => []
  | _, .dataLevel bit :: ws => sampledBits bit ws
  | data, .clockRise :: ws => data :: sampledBits data ws
  | data, .clockFall :: ws => sampledBits data ws
  | data, .selectLow :: ws => sampledBits data ws
  | data, .selectHigh :: ws => sampledBits data ws
  | data, .dcLevel _ :: ws => sampledBits data ws

end Sys2Proof.Machine
end

