-- ==== Sys2Proof/Safety.lean ====
section
/-! DEFINITION. The terms claims use: the invariant of the machine, what the running command's expansion is, what a
dutiful host does, and the spec's own closed forms and tables, written from the spec and not from the model's code. -/

namespace Sys2Proof.Machine

/-! ## Running -/

/-- `k` steps of the machine, stopping at a fault or refusal. -/
def runSteps (k : Nat) (s : State) : Host.Outcome State Fault Refusal := Host.Core.run Sys2Proof.core k s

/-- The marks of an expansion, in order. -/
def marksOf : List Item → List Mark
  | [] => []
  | .tx _ :: is => marksOf is
  | .mark m :: is => m :: marksOf is

/-- The bytes a list of transactions puts on the data line, in order (R52). -/
def wireBytes (ts : List Tx) : List Byte := ts.flatMap Tx.bytes

/-! ## The invariant -/

/-- A legal latched or programmed dimension (R28). -/
def dimOk (v : Half) : Prop := 1 ≤ v.toNat ∧ v.toNat ≤ 256

/-- While the engine is busy, `Q` is what remains of the running command's expansion (R34, R36), `CMD` reads its word
(R18), its outcome is open (R24), its fallback and bulk buffer are those of its expansion (R22, R50). -/
def State.runningOk (s : State) : Prop :=
  s.q ≠ [] ∧ s.err = .none ∧ s.latch.word = s.cmd ∧ dimOk s.latch.cfg.width ∧ dimOk s.latch.cfg.height ∧
    ∃ i its, decode s.cmd = .ok i ∧ expandOf i (s.runningView s.seenMem) = .items its s.fallback s.bulk ∧
      s.q = its.drop s.performed

/-- While the engine is idle it holds nothing: no item, no buffer, no transaction on the bus (R34, R50). -/
def State.idleOk (s : State) : Prop := s.q = [] ∧ s.bulk = none ∧ s.stalled = false

/-- The invariant of the machine: legal panel dimensions (R28), memory in canonical form, `Q` consistent with the
phase (R20, R34), and a stall only in the middle of a transaction (R136). -/
structure State.Inv (s : State) : Prop where
  panelW : dimOk s.panelW
  panelH : dimOk s.panelH
  mem : Memory.wf s.mem = true
  seenMem : Memory.wf s.seenMem = true
  idle : s.phase = .idle → s.idleOk
  busy : s.phase = .busy → s.runningOk
  stalled : s.stalled = true → ∃ t rest, s.q = .tx t :: rest

/-- A window mark is ordered (R92). -/
def Mark.ordered : Mark → Prop
  | .winShadow xs ys xe ye => xs.toNat ≤ xe.toNat ∧ ys.toNat ≤ ye.toNat
  | .winInvalid => True
  | .setOrient _ => True

/-- A window mark lies within the screen of the latched configuration (R92). -/
def Mark.within (c : LatchedCfg) : Mark → Prop
  | .winShadow xs ys xe ye =>
    xs.toNat ≤ xe.toNat ∧ ys.toNat ≤ ye.toNat ∧ xe.toNat < c.width.toNat ∧ ye.toNat < c.height.toNat
  | .winInvalid => True
  | .setOrient _ => True

/-- The window shadow, where it is valid, is an ordered window (R21, R32, R92). -/
def State.shadowOrdered (s : State) : Prop :=
  s.winv = true → s.winXs.toNat ≤ s.winXe.toNat ∧ s.winYs.toNat ≤ s.winYe.toNat

/-! ## What the accept step may change -/

/-- `t` differs from `s` at most in what the accept step writes (R35): `CMD`, `L`, `ERR`, `FALLBACK`, `Q`, the phase,
the bulk buffer, and the model's own record of the draw and the snapshot. Every other field is equal: the argument
registers, the configuration, `OVERRUN`, `WINV` and the shadow, `ORIENT`, the source memory, the glyph ROM, the
stream. -/
def AcceptFrame (s t : State) : Prop :=
  t = { s with
        cmd := t.cmd, latch := t.latch, err := t.err, fallback := t.fallback, q := t.q, phase := t.phase,
        bulk := t.bulk, seenMem := t.seenMem, racing := t.racing, seenGrant := t.seenGrant, performed := t.performed,
        grants := t.grants, draws := t.draws }

/-- The record of an accepted command (R18, R35): `CMD` reads its word, the latch holds the word, the argument
registers and the configuration of this moment. -/
def AcceptRecord (s t : State) (w : Word) : Prop :=
  t.cmd = w ∧ t.latch.word = w ∧ t.latch.args = s.args ∧ t.latch.cfg.width = s.width ∧
    t.latch.cfg.height = s.height ∧ t.latch.cfg.caset = s.opcCaset ∧ t.latch.cfg.raset = s.opcRaset ∧
    t.latch.cfg.ramwr = s.opcRamwr ∧ t.latch.cfg.madctlOpc = s.opcMadctl ∧ t.latch.cfg.madctl0 = s.madctl0 ∧
    t.latch.cfg.madctl1 = s.madctl1 ∧ t.latch.cfg.madctl2 = s.madctl2 ∧ t.latch.cfg.madctl3 = s.madctl3 ∧
    t.latch.cfg.bulkEn = s.bulkEn

/-- The command `i` is accepted in `s` and starts the engine on the items `its` (R35). -/
def StartsWith (i : Instr) (s : State) (its : List Item) (fb : Bool) (bulk : Option BulkBuffer) : Prop :=
  ∃ t, exec i s = .next t ∧ AcceptFrame s t ∧ AcceptRecord s t (encode i) ∧ t.err = .none ∧ t.fallback = fb ∧
    t.phase = .busy ∧ t.q = its ∧ t.bulk = bulk

/-- The command `i` is accepted in `s` and completes at once with nothing emitted (R35). -/
def CompletesAtOnce (i : Instr) (s : State) : Prop :=
  ∃ t, exec i s = .next t ∧ AcceptFrame s t ∧ AcceptRecord s t (encode i) ∧ t.err = .none ∧ t.fallback = false ∧
    t.phase = .idle ∧ t.q = s.q ∧ t.bulk = s.bulk

/-- The command `i` is rejected in `s` with the code `c` before any effect (R134). -/
def RejectedWith (i : Instr) (s : State) (c : ErrCode) : Prop :=
  ∃ t, exec i s = .next t ∧ AcceptFrame s t ∧ AcceptRecord s t (encode i) ∧ t.err = c ∧ t.fallback = false ∧
    t.phase = .idle ∧ t.q = s.q ∧ t.bulk = s.bulk

/-! ## The spec's tables and closed forms -/

/-- A 16-bit operand register as an integer (R6). -/
def State.argInt (s : State) (i : Fin 8) : Int := ((s.args.get i).toNat : Int)

/-- The 32-bit operand `{A7, A6}` as a number: A7 holds bits 31:16 (R76). -/
def State.argWide (s : State) : Nat := s.args.a7.toNat * 2 ^ 16 + s.args.a6.toNat

/-- The drawing commands (R94). -/
def isDrawing : Instr → Bool
  | .point | .line | .rect | .rectf | .circle | .circlef | .tri | .trif => true
  | .textchar _ | .textstr _ | .textctr _ | .numeric _ | .blit | .fillscr => true
  | .nop | .wrcmd | .wrdata8 | .wrdata16 | .setwin | .setorient => false

/-- The glyph advance written out (R114). -/
def gw (s : Int) : Int := s / 2

/-- The accept predicate of a command's row in the table of R132, `n` being the number of printable bytes or the
digit count; true for a command that has no row. -/
def windowRow (i : Instr) (s : State) (n : Int) : Bool :=
  let a := s.argInt
  let w : Int := (s.width.toNat : Int)
  let h : Int := (s.height.toNat : Int)
  match i with
  | .setwin => decide (a 0 ≤ a 2 ∧ a 2 < w ∧ a 1 ≤ a 3 ∧ a 3 < h)
  | .point => decide (a 0 < w ∧ a 1 < h)
  | .line => decide (a 0 < w ∧ a 1 < h ∧ a 2 < w ∧ a 3 < h)
  | .rect => decide (a 0 ≤ a 2 ∧ a 2 < w ∧ a 1 ≤ a 3 ∧ a 3 < h)
  | .rectf => decide (a 0 ≤ a 2 ∧ a 2 < w ∧ a 1 ≤ a 3 ∧ a 3 < h)
  | .circle => decide (a 2 ≤ a 0 ∧ a 2 ≤ a 1 ∧ a 0 + a 2 < w ∧ a 1 + a 2 < h)
  | .circlef => decide (a 2 ≤ a 0 ∧ a 2 ≤ a 1 ∧ a 0 + a 2 < w ∧ a 1 + a 2 < h)
  | .tri => decide (a 0 < w ∧ a 1 < h ∧ a 2 < w ∧ a 3 < h ∧ a 4 < w ∧ a 5 < h)
  | .trif => decide (a 0 < w ∧ a 1 < h ∧ a 2 < w ∧ a 3 < h ∧ a 4 < w ∧ a 5 < h)
  | .textchar _ => decide (a 0 + gw (a 5) - 1 < w ∧ a 1 + a 5 - 1 < h)
  | .textstr _ => decide (a 0 + n * gw (a 5) - 1 < w ∧ a 1 + a 5 - 1 < h)
  | .textctr _ => decide (n * gw (a 5) ≤ w ∧ a 5 ≤ h)
  | .numeric _ => decide (a 0 + n * gw (a 5) - 1 < w ∧ a 1 + a 5 - 1 < h)
  | .blit => decide (1 ≤ a 2 ∧ 1 ≤ a 3 ∧ a 0 + a 2 - 1 < w ∧ a 1 + a 3 - 1 < h)
  | .nop | .wrcmd | .wrdata8 | .wrdata16 | .setorient | .fillscr => true

/-- The 11 transactions and the mark of the window sequence with the registers of `s` (R93), byte by byte. -/
def windowItems (s : State) (x0 y0 x1 y1 : Int) : List Item :=
  let b (v : Int) : Item := .tx ⟨.data, [BitVec.ofInt 8 v]⟩
  [.tx ⟨.command, [s.opcCaset]⟩, b 0, b x0, b 0, b x1, .tx ⟨.command, [s.opcRaset]⟩, b 0, b y0, b 0, b y1,
    .tx ⟨.command, [s.opcRamwr]⟩,
    .mark (.winShadow (BitVec.ofInt 8 x0) (BitVec.ofInt 8 y0) (BitVec.ofInt 8 x1) (BitVec.ofInt 8 y1))]

/-- The restore with the registers of `s` (R94). -/
def restoreItems (s : State) : List Item :=
  windowItems s 0 0 ((s.width.toNat : Int) - 1) ((s.height.toNat : Int) - 1)

/-- One `Data16` pixel: high byte first (R86). -/
def pixelItem (v : Half) : Item := .tx ⟨.data, [v.extractLsb' 8 8, v.extractLsb' 0 8]⟩

/-- One plot with the registers of `s` (R97). -/
def plotItems (s : State) (colour : Half) (p : Int × Int) : List Item :=
  windowItems s p.1 p.2 p.1 p.2 ++ [pixelItem colour]

/-- Plot `j` of a line in closed form along one axis (R98): `(2*j*delta + d - 1) div (2*d)`, 0 for `d = 0`. -/
def lineOffset (d delta j : Nat) : Int := ((if d = 0 then 0 else (2 * j * delta + d - 1) / (2 * d) : Nat) : Int)

/-- The points of a line in closed form (R98): point `j` for `j` in `0..max(|dx|, |dy|)`. -/
def closedLine (x0 y0 x1 y1 : Int) : List (Int × Int) :=
  let d := max (x1 - x0).natAbs (y1 - y0).natAbs
  (List.range (d + 1)).map fun j =>
    (x0 + Int.sign (x1 - x0) * lineOffset d (x1 - x0).natAbs j, y0 + Int.sign (y1 - y0) * lineOffset d (y1 - y0).natAbs j)

/-- The eight symmetric points of an octant offset, later duplicates removed (R104). -/
def octants (xc yc a b : Int) : List (Int × Int) :=
  [(xc + a, yc - b), (xc + b, yc - a), (xc + b, yc + a), (xc + a, yc + b),
    (xc - a, yc + b), (xc - b, yc + a), (xc - a, yc - b), (xc - b, yc - a)].eraseDups

/-- The octant offsets and decision values of `Steps(r)` as a chain (R103): `k` starts the recurrence, each entry
follows from the one before it, every entry has `a ≤ b`, and the entry after the last one would not. -/
structure StepChain (r : Int) (k : List (Int × Int × Int)) : Prop where
  start : k.head? = some (0, r, 3 - 2 * r)
  next : ∀ n p q, k[n]? = some p → k[n + 1]? = some q →
    q = if p.2.2 < 0 then (p.1 + 1, p.2.1, p.2.2 + 4 * p.1 + 6)
        else (p.1 + 1, p.2.1 - 1, p.2.2 + 4 * (p.1 - p.2.1) + 10)
  inside : ∀ p ∈ k, p.1 ≤ p.2.1
  stops : ∀ p, k.getLast? = some p → (if p.2.2 < 0 then p.2.1 else p.2.1 - 1) < p.1 + 1

/-- Row `y` of the fill of a triangle with sorted vertices in closed form (R110): the edge p0-p1 above the split row,
p1-p2 from it on (p0-p1 throughout for a flat bottom), against the edge p0-p2; truncating division. -/
def closedSpan (p0 p1 p2 : Int × Int) (y : Int) : ScanSpan :=
  let a :=
    if y < p1.2 ∨ p1.2 = p2.2 then p0.1 + Int.tdiv ((p1.1 - p0.1) * (y - p0.2)) (p1.2 - p0.2)
    else p1.1 + Int.tdiv ((p2.1 - p1.1) * (y - p1.2)) (p2.2 - p1.2)
  let b := p0.1 + Int.tdiv ((p2.1 - p0.1) * (y - p0.2)) (p2.2 - p0.2)
  (y, min a b, max a b)

/-- The spans of a triangle fill in closed form (R110): the degenerate triangle has one, any other one a row. -/
def closedSpans (p0 p1 p2 : Int × Int) : List ScanSpan :=
  if p0.2 = p2.2 then [(p0.2, min p0.1 (min p1.1 p2.1), max p0.1 (max p1.1 p2.1))]
  else (intRange p0.2 p2.2).map (closedSpan p0 p1 p2)

/-- One painted scanline with the registers of `s` (R108). -/
def scanItems (s : State) (colour : Half) (p : ScanSpan) : List Item :=
  windowItems s p.2.1 p.1 p.2.2 p.1 ++ List.replicate (p.2.2 - p.2.1 + 1).toNat (pixelItem colour)

/-- The printable bytes of a counted string (R118): the `len` bytes at `addr`, the address wrapping modulo 2^32, those
from 0x20 to 0x7E. -/
def printableAt (m : List Host.Cell) (addr len : Nat) : List Nat :=
  ((List.range len).map fun i => (Memory.readByte m ((addr + i) % 2 ^ 32)).toNat).filter
    fun b => decide (0x20 ≤ b ∧ b ≤ 0x7E)

/-- The printable bytes of the string operand, read from the memory of `s` (R118). -/
def stringCodes (s : State) : List Nat := printableAt s.mem s.argWide s.args.a4.toNat

/-- A glyph ROM that holds two whole tables, byte by byte (R48). -/
def romOf (t12 t16 : List Byte) : GlyphRom :=
  ⟨t12.zipIdx.map fun p => (p.2, p.1), t16.zipIdx.map fun p => (p.2, p.1)⟩

/-- How many plots a glyph is in overlay mode: its set bits (R116). -/
def glyphDots (rom : GlyphRom) (size code : Nat) : Nat :=
  ((List.range size).map fun r => (List.range (size / 2)).countP fun col => (rom.byte size code r).getLsbD col).sum

/-- A glyph's cell in background mode (R115): one window, then row by row each column's pixel, foreground where the
ROM bit is set. -/
def cellItems (s : State) (fg bg : Half) (size : Nat) (x y : Int) (code : Nat) : List Item :=
  windowItems s x y (x + (size / 2 : Nat) - 1) (y + (size : Int) - 1) ++
    (List.range size).flatMap fun r =>
      (List.range (size / 2)).map fun col =>
        pixelItem (if (s.rom.byte size code r).getLsbD col then fg else bg)

/-- A glyph in overlay mode (R115, R116): one plot for each set bit, nothing for a clear one. -/
def overlayItems (s : State) (fg : Half) (size : Nat) (x y : Int) (code : Nat) : List Item :=
  (List.range size).flatMap fun r =>
    (List.range (size / 2)).flatMap fun col =>
      if (s.rom.byte size code r).getLsbD col then plotItems s fg (x + (col : Int), y + (r : Int)) else []

/-- A run of glyphs: glyph `k` of `codes` at `x + k * GW` (R120, R121, R123). -/
def runItems (s : State) (ov : Bool) (fg bg : Half) (size : Nat) (x y : Int) (codes : List Nat) : List Item :=
  codes.zipIdx.flatMap fun p =>
    if ov then overlayItems s fg size (x + (p.2 * (size / 2) : Nat)) y p.1
    else cellItems s fg bg size (x + (p.2 * (size / 2) : Nat)) y p.1

/-- The outcome of a text command that emits `body` (R117): the restore follows a body that emitted something, an
empty body completes at once. -/
def Finishes (i : Instr) (s : State) (body : List Item) : Prop :=
  (body ≠ [] → StartsWith i s (body ++ restoreItems s) false none) ∧ (body = [] → CompletesAtOnce i s)

/-- The decimal value the codes of a number show, a space counting as 0 (R122). -/
def shownValue : List Nat → Nat
  | [] => 0
  | c :: cs => (c - 0x30) * 10 ^ cs.length + shownValue cs

/-! ## The host's duties (R151, R152) -/

/-- The next move keeps the host's duties: no guarded write while busy (R151), no source byte changed under a running
command (R152). -/
def State.dutiful (s : State) : Bool :=
  match s.agenda with
  | .hostWrite off _ :: _ =>
    match Reg.ofOffset off with
    | some r => !(r.guarded && s.busy)
    | none => true
  | .memWrite _ _ :: _ => !s.busy
  | _ => true

end Sys2Proof.Machine
end

