-- ==== Sys2Proof/Certificates/Slice0/Obligations.lean ====
section
/-! DEFINITION. The statements for the provers. Each docstring names the rule it formalises or the log entry it rests
on. The terms they use are in Sys2Proof/Safety.lean. The fields a statement uses to speak of the agents' moves and of
what they saw are the model's choice: `agenda` (log entry 6), `readData` (12), `trace` (19), `stalled` (17), `grants`,
`draws` and `seenGrant` (3), `seenMem`, `performed` and `racing` (4, 8); `madctlReset` holds a build parameter (14). -/

open Sys2Proof Sys2Proof.Machine

/-! ## Encoding -/

/-- R69 to R75: decoding an encoded command gives it back, and the encoder gives the only word that decodes to it. -/
def Obligations.EncodeAndDecodeAreInverse : Prop :=
  (∀ i : Instr, decode (encode i) = .ok i) ∧ ∀ (w : Word) (i : Instr), decode w = .ok i → w = encode i

/-- R78: which words are illegal, and what writing one to `CMD` does: it completes at once with `ILLEGAL_COMMAND`,
emits nothing and changes nothing but what the accept step writes. -/
def Obligations.IllegalWordsOnlyReport : Prop :=
  (∀ w : Word, decode? w = none ↔
    (w.extractLsb' 10 22 ≠ 0#22 ∨
      (w.extractLsb' 0 8).toNat ∉ [0x00, 0x01, 0x02, 0x03, 0x04, 0x05, 0x10, 0x11, 0x12, 0x13, 0x14, 0x20, 0x21, 0x22,
        0x23, 0x30, 0x31] ∨
      (w.getLsbD 8 = true ∧ (w.extractLsb' 0 8).toNat ∉ [0x12, 0x13, 0x14]) ∨
      (w.getLsbD 9 = true ∧ (w.extractLsb' 0 8).toNat ∉ [0x20, 0x21, 0x22, 0x23]))) ∧
  ∀ (s : State) (off : Offset) (w : Word) (rest : List Event), s.agenda = .hostWrite off w :: rest →
    off.toNat / 4 = 0 → s.phase = .idle → decode? w = none →
    ∃ t, step s = .next t ∧ AcceptFrame (s.withAgenda rest) t ∧ AcceptRecord s t w ∧ t.err = .illegalCommand ∧
      t.fallback = false ∧ t.phase = .idle ∧ t.q = s.q ∧ t.bulk = s.bulk ∧ t.trace = s.trace

/-- R74: words written out from the table's bits decode to their commands, and neighbours of them are illegal. -/
def Obligations.SampleWordsDecode : Prop :=
  decode 0x00000000#32 = .ok .nop ∧ decode 0x00000001#32 = .ok .wrcmd ∧ decode 0x00000004#32 = .ok .setwin ∧
  decode 0x00000010#32 = .ok .point ∧ decode 0x00000112#32 = .ok .rectf ∧ decode 0x00000113#32 = .ok .circlef ∧
  decode 0x00000114#32 = .ok .trif ∧ decode 0x00000220#32 = .ok (.textchar true) ∧
  decode 0x00000023#32 = .ok (.numeric false) ∧ decode 0x00000030#32 = .ok .blit ∧
  decode 0x00000031#32 = .ok .fillscr ∧ decode 0x00000100#32 = .error .fillNotAllowed ∧
  decode 0x00000213#32 = .error .overlayNotAllowed ∧ decode 0x80000011#32 = .error .reservedBits ∧
  decode 0x00000006#32 = .error .unassignedOpcode

/-! ## Steps, host accesses, the register port -/

/-- R18, R51, R75: when the next move writes a legal word to `CMD`, the step is `exec` of the decoded command in the
state with that move taken off the agenda; a state prepared by `withFetchWord` is such a state. -/
def Obligations.StepRunsTheDecodedCommand : Prop :=
  (∀ (s : State) (off : Offset) (w : Word) (rest : List Event) (i : Instr), s.agenda = .hostWrite off w :: rest →
    off.toNat / 4 = 0 → decode w = .ok i → step s = exec i (s.withAgenda rest)) ∧
  ∀ (s : State) (nbits w : Nat) (i : Instr), decodeTableWord nbits w = some i →
    step (s.withFetchWord nbits w) = exec i { s with phase := .idle, q := [], stalled := false, bulk := none }

/-- R14, R17: a host read returns the register its offset names, offset bits 1 and 0 ignored and reserved bits 0, and
changes nothing else. -/
def Obligations.HostReadReturnsTheRegister : Prop :=
  ∀ (s : State) (off : Offset) (rest : List Event), s.agenda = .hostRead off :: rest →
    ∃ t, step s = .next t ∧ t = { s with agenda := rest, readData := t.readData } ∧
      (off.toNat / 4 = 0 → t.readData = s.cmd) ∧
      (off.toNat / 4 = 1 → t.readData.toNat =
        (if s.phase = .busy then 1 else 0) + (if s.winv then 2 else 0) + (if s.fallback then 4 else 0) +
          (if s.overrun then 8 else 0) + 16 * s.err.code.toNat) ∧
      (off.toNat / 4 = 2 → t.readData.toNat = if s.bulkEn then 1 else 0) ∧
      (off.toNat / 4 = 3 → t.readData.toNat = s.orient.toNat) ∧
      (off.toNat / 4 = 4 → t.readData.toNat = if s.orient.getLsbD 0 then s.panelH.toNat else s.panelW.toNat) ∧
      (off.toNat / 4 = 5 → t.readData.toNat = if s.orient.getLsbD 0 then s.panelW.toNat else s.panelH.toNat) ∧
      (off.toNat / 4 = 6 → t.readData.toNat = s.panelW.toNat) ∧
      (off.toNat / 4 = 7 → t.readData.toNat = s.panelH.toNat) ∧
      (off.toNat / 4 = 8 → t.readData.toNat = s.controllerId.toNat) ∧
      (off.toNat / 4 = 9 → t.readData.toNat = s.opcCaset.toNat) ∧
      (off.toNat / 4 = 10 → t.readData.toNat = s.opcRaset.toNat) ∧
      (off.toNat / 4 = 11 → t.readData.toNat = s.opcRamwr.toNat) ∧
      (off.toNat / 4 = 12 → t.readData.toNat = s.opcMadctl.toNat) ∧
      (off.toNat / 4 = 13 → t.readData.toNat = s.madctl0.toNat) ∧
      (off.toNat / 4 = 14 → t.readData.toNat = s.madctl1.toNat) ∧
      (off.toNat / 4 = 15 → t.readData.toNat = s.madctl2.toNat) ∧
      (off.toNat / 4 = 16 → t.readData.toNat = s.madctl3.toNat) ∧
      (off.toNat / 4 = 17 → t.readData.toNat = s.winXs.toNat) ∧
      (off.toNat / 4 = 18 → t.readData.toNat = s.winYs.toNat) ∧
      (off.toNat / 4 = 19 → t.readData.toNat = s.winXe.toNat) ∧
      (off.toNat / 4 = 20 → t.readData.toNat = s.winYe.toNat) ∧
      ∀ i : Fin 8, off.toNat / 4 = 24 + i.val → t.readData.toNat = (s.args.get i).toNat

/-- R15: a read of an offset from 0x54 to 0x5F returns 0, a write to it is ignored and sets no status bit. -/
def Obligations.ReservedOffsetsReadZeroIgnoreWrites : Prop :=
  ∀ (s : State) (off : Offset) (v : Word) (rest : List Event), 0x54 ≤ off.toNat → off.toNat ≤ 0x5F →
    (s.agenda = .hostRead off :: rest → step s = .next { s with agenda := rest, readData := 0#32 }) ∧
    (s.agenda = .hostWrite off v :: rest → step s = .next { s with agenda := rest })

/-- R16: while busy a write to `CMD`, `CTRL`, `PANEL_W`, `PANEL_H`, `CONTROLLER_ID`, an `OPC_*` or a `MADCTL*` register
is dropped and sets `OVERRUN`; writes to `A0`..`A7` and `STATUS` are performed in every phase; writes to read-only
registers are ignored in every phase and set nothing. -/
def Obligations.GuardedWritesWhileBusyAreDropped : Prop :=
  ∀ (s : State) (off : Offset) (v : Word) (rest : List Event), s.agenda = .hostWrite off v :: rest →
    (s.phase = .busy → off.toNat / 4 ∈ [0, 2, 6, 7, 8, 9, 10, 11, 12, 13, 14, 15, 16] →
      step s = .next { s with agenda := rest, overrun := true }) ∧
    (∀ i : Fin 8, off.toNat / 4 = 24 + i.val →
      step s = .next { s with agenda := rest, args := s.args.set i (v.extractLsb' 0 16) }) ∧
    (off.toNat / 4 = 1 →
      step s = .next { s with agenda := rest, overrun := if v.getLsbD 3 then false else s.overrun }) ∧
    (off.toNat / 4 ∈ [3, 4, 5, 17, 18, 19, 20] → step s = .next { s with agenda := rest })

/-- R17: a write to a read/write register while idle stores the register's bits and nothing else. -/
def Obligations.ConfigurationWritesWhileIdleAreStored : Prop :=
  ∀ (s : State) (off : Offset) (v : Word) (rest : List Event), s.agenda = .hostWrite off v :: rest → s.phase = .idle →
    (off.toNat / 4 = 2 → step s = .next { s with agenda := rest, bulkEn := v.getLsbD 0 }) ∧
    (off.toNat / 4 = 8 → step s = .next { s with agenda := rest, controllerId := v.extractLsb' 0 16 }) ∧
    (off.toNat / 4 = 9 → step s = .next { s with agenda := rest, opcCaset := v.extractLsb' 0 8 }) ∧
    (off.toNat / 4 = 10 → step s = .next { s with agenda := rest, opcRaset := v.extractLsb' 0 8 }) ∧
    (off.toNat / 4 = 11 → step s = .next { s with agenda := rest, opcRamwr := v.extractLsb' 0 8 }) ∧
    (off.toNat / 4 = 12 → step s = .next { s with agenda := rest, opcMadctl := v.extractLsb' 0 8 }) ∧
    (off.toNat / 4 = 13 → step s = .next { s with agenda := rest, madctl0 := v.extractLsb' 0 8 }) ∧
    (off.toNat / 4 = 14 → step s = .next { s with agenda := rest, madctl1 := v.extractLsb' 0 8 }) ∧
    (off.toNat / 4 = 15 → step s = .next { s with agenda := rest, madctl2 := v.extractLsb' 0 8 }) ∧
    (off.toNat / 4 = 16 → step s = .next { s with agenda := rest, madctl3 := v.extractLsb' 0 8 })

/-- R28: a panel dimension write stores `v[15:0]` when it is 1 to 256 and is ignored otherwise; while busy it is
dropped; the reset values are 128 and 160. -/
def Obligations.PanelDimensionWrites : Prop :=
  State.reset.panelW = 128#16 ∧ State.reset.panelH = 160#16 ∧
  ∀ (s : State) (off : Offset) (v : Word) (rest : List Event), s.agenda = .hostWrite off v :: rest →
    off.toNat / 4 ∈ [6, 7] →
    (s.phase = .busy → step s = .next { s with agenda := rest, overrun := true }) ∧
    (s.phase = .idle → (v.extractLsb' 0 16 = 0#16 ∨ 256 < (v.extractLsb' 0 16).toNat) →
      step s = .next { s with agenda := rest }) ∧
    (s.phase = .idle → 1 ≤ (v.extractLsb' 0 16).toNat → (v.extractLsb' 0 16).toNat ≤ 256 →
      (off.toNat / 4 = 6 → step s = .next { s with agenda := rest, panelW := v.extractLsb' 0 16 }) ∧
      (off.toNat / 4 = 7 → step s = .next { s with agenda := rest, panelH := v.extractLsb' 0 16 }))

/-- R19: the bits of `STATUS`, what a write to it does, and its reset value. -/
def Obligations.StatusFieldsAndWrite : Prop :=
  (∀ s : State, (s.statusWord.getLsbD 0 = true ↔ s.phase = .busy) ∧ s.statusWord.getLsbD 1 = s.winv ∧
    s.statusWord.getLsbD 2 = s.fallback ∧ s.statusWord.getLsbD 3 = s.overrun ∧
    s.statusWord.extractLsb' 4 4 = s.err.code ∧ s.statusWord.extractLsb' 8 24 = 0#24) ∧
  State.reset.statusWord = 0#32 ∧
  ∀ (s : State) (off : Offset) (v : Word) (rest : List Event), s.agenda = .hostWrite off v :: rest →
    off.toNat / 4 = 1 →
    (v.getLsbD 3 = true → step s = .next { s with agenda := rest, overrun := false }) ∧
    (v.getLsbD 3 = false → step s = .next { s with agenda := rest })

/-- R23: `OVERRUN` is set by a dropped write and by nothing else, and cleared by writing 1 to `STATUS` bit 3 and by
reset and by nothing else. -/
def Obligations.OverrunIsSticky : Prop :=
  ∀ s t : State, step s = .next t →
    (s.overrun = true → t.overrun = false →
      (∃ off v rest, s.agenda = .hostWrite off v :: rest ∧ off.toNat / 4 = 1 ∧ v.getLsbD 3 = true) ∨
        ∃ cut rest, s.agenda = .reset cut :: rest) ∧
    (s.overrun = false → t.overrun = true →
      s.phase = .busy ∧ ∃ off v rest, s.agenda = .hostWrite off v :: rest ∧
        off.toNat / 4 ∈ [0, 2, 6, 7, 8, 9, 10, 11, 12, 13, 14, 15, 16]) ∧
    (s.phase = .busy → (∃ off v rest, s.agenda = .hostWrite off v :: rest ∧
        off.toNat / 4 ∈ [0, 2, 6, 7, 8, 9, 10, 11, 12, 13, 14, 15, 16]) → t.overrun = true) ∧
    ((∃ off v rest, s.agenda = .hostWrite off v :: rest ∧ off.toNat / 4 = 1 ∧ v.getLsbD 3 = true) →
      t.overrun = false) ∧
    ((∃ cut rest, s.agenda = .reset cut :: rest) → t.overrun = false)

/-- R26: a step changes `ORIENT` only by performing a `SetOrient` mark or by reset, and only the expansion of
`SETORIENT` holds such a mark, with the direction of its operand. -/
def Obligations.OrientationChangesOnlyBySetorient : Prop :=
  (∀ s t : State, step s = .next t → t.orient ≠ s.orient →
    (∃ cut rest, s.agenda = .reset cut :: rest) ∨
      ∃ ans rest tl, s.agenda = .engine ans :: rest ∧ s.q = .mark (.setOrient t.orient) :: tl) ∧
  ∀ (i : Instr) (v : View) (d : BitVec 2), Mark.setOrient d ∈ marksOf (expandOf i v).list →
    i = .setorient ∧ d.toNat = (v.latch.args.get 0).toNat

/-- R21: `WINV` is set by a `WinShadow` mark and by nothing else, and is cleared by a `WinInvalid` mark, a transport
fault and reset and by nothing else; it is 0 after reset; the expansions of `WRCMD` and of an accepted `SETORIENT` hold
a `WinInvalid` mark and no other expansion does. -/
def Obligations.WindowValidityChanges : Prop :=
  State.reset.winv = false ∧
  (∀ s t : State, step s = .next t → s.winv = false → t.winv = true →
    ∃ ans rest a b c d tl, s.agenda = .engine ans :: rest ∧ s.q = .mark (.winShadow a b c d) :: tl) ∧
  (∀ s t : State, step s = .next t → s.winv = true → t.winv = false →
    (∃ cut rest, s.agenda = .reset cut :: rest) ∨
      (∃ ans rest tl, s.agenda = .engine ans :: rest ∧ s.q = .mark .winInvalid :: tl) ∨
      ∃ k rest x tl, s.agenda = .engine (.fault k) :: rest ∧ s.q = .tx x :: tl) ∧
  (∀ (s : State) (ans : BusAnswer) (rest : List Event) (tl : List Item), s.agenda = .engine ans :: rest →
    s.phase = .busy → s.stalled = false →
    (∀ a b c d, s.q = .mark (.winShadow a b c d) :: tl → ∃ t, step s = .next t ∧ t.winv = true) ∧
    (s.q = .mark .winInvalid :: tl → ∃ t, step s = .next t ∧ t.winv = false) ∧
    ∀ k x, ans = .fault k → s.q = .tx x :: tl → ∃ t, step s = .next t ∧ t.winv = false) ∧
  (∀ (s : State) (cut : Option Nat) (rest : List Event), s.agenda = .reset cut :: rest →
    ∃ t, step s = .next t ∧ t.winv = false) ∧
  (∀ v : View, Mark.winInvalid ∈ marksOf (expandOf .wrcmd v).list) ∧
  (∀ v : View, (v.latch.args.get 0).toNat ≤ 3 → Mark.winInvalid ∈ marksOf (expandOf .setorient v).list) ∧
  ∀ (i : Instr) (v : View), Mark.winInvalid ∈ marksOf (expandOf i v).list → i = .wrcmd ∨ i = .setorient

/-- R33, R30, R31, R16: no command and no engine step writes an argument register or a configuration register; an
argument register changes only by a host write at its offset or by reset, a configuration register only by a host
write to a guarded offset while idle or by reset. -/
def Obligations.OnlyTheHostWritesItsRegisters : Prop :=
  ∀ s t : State, step s = .next t →
    (∀ i : Fin 8, t.args.get i ≠ s.args.get i →
      (∃ cut rest, s.agenda = .reset cut :: rest) ∨
        ∃ off v rest, s.agenda = .hostWrite off v :: rest ∧ off.toNat / 4 = 24 + i.val ∧
          t.args.get i = v.extractLsb' 0 16) ∧
    ((t.bulkEn, t.panelW, t.panelH, t.controllerId, t.opcCaset, t.opcRaset, t.opcRamwr, t.opcMadctl, t.madctl0,
        t.madctl1, t.madctl2, t.madctl3) ≠
      (s.bulkEn, s.panelW, s.panelH, s.controllerId, s.opcCaset, s.opcRaset, s.opcRamwr, s.opcMadctl, s.madctl0,
        s.madctl1, s.madctl2, s.madctl3) →
      (∃ cut rest, s.agenda = .reset cut :: rest) ∨
        (s.phase = .idle ∧ ∃ off v rest, s.agenda = .hostWrite off v :: rest ∧
          off.toNat / 4 ∈ [2, 6, 7, 8, 9, 10, 11, 12, 13, 14, 15, 16]))

/-- R5, R44, R47, R48, R49: the core never writes the source memory; a platform write changes the byte written and no
other; no step writes the glyph ROM or the build parameter `MADCTL_RESET`; `Rom(size, code, r)` is byte `r` of glyph
`code - 0x20` of the table of that height. -/
def Obligations.SourceMemoryAndRomAreReadOnly : Prop :=
  (∀ s t : State, step s = .next t →
    t.rom = s.rom ∧ t.madctlReset = s.madctlReset ∧
    ((∀ addr b rest, s.agenda ≠ .memWrite addr b :: rest) → t.mem = s.mem) ∧
    ∀ addr b rest, s.agenda = .memWrite addr b :: rest →
      (∀ a, a ≠ addr.toNat → Memory.readByte t.mem a = Memory.readByte s.mem a) ∧
      (Memory.wf s.mem = true → Memory.readByte t.mem addr.toNat = b)) ∧
  ∀ (t12 t16 : List Byte) (code r : Nat), t12.length = 95 * 12 → t16.length = 95 * 16 → 0x20 ≤ code → code ≤ 0x7E →
    (r < 12 → ((t12.drop (12 * (code - 0x20))).take 12)[r]? = some ((romOf t12 t16).byte 12 code r)) ∧
    (r < 16 → ((t16.drop (16 * (code - 0x20))).take 16)[r]? = some ((romOf t12 t16).byte 16 code r))

/-- R45: `MemRead` is little-endian and wraps modulo 2^32; at 0xFFFFFFFF two bytes are those at 0xFFFFFFFF and 0. -/
def Obligations.MemReadIsLittleEndianAndWraps : Prop :=
  ∀ (m : List Host.Cell) (addr : Nat),
    memRead m addr 1 = (Memory.readByte m (addr % 2 ^ 32)).toNat ∧
    memRead m addr 2 =
      (Memory.readByte m (addr % 2 ^ 32)).toNat + 256 * (Memory.readByte m ((addr + 1) % 2 ^ 32)).toNat ∧
    memRead m 0xFFFFFFFF 2 = (Memory.readByte m 0xFFFFFFFF).toNat + 256 * (Memory.readByte m 0).toNat

/-! ## Accepting a command -/

/-- R35: the accept step latches the word, the argument registers, the configuration and the memory of this moment,
clears `ERR` and `FALLBACK`, draws the grant (log entry 3), and does with the expansion what the rule says; `OVERRUN` is untouched. -/
def Obligations.AcceptLatchesAndExpands : Prop :=
  ∀ (i : Instr) (s : State), s.phase = .idle →
    ∃ t, exec i s = .next t ∧ AcceptFrame s t ∧ AcceptRecord s t (encode i) ∧ t.overrun = s.overrun ∧
      t.seenMem = s.mem ∧ t.racing = [] ∧ t.performed = 0 ∧ t.grants = s.grants.tail ∧ t.draws = s.draws + 1 ∧
      (∀ g gs, s.grants = g :: gs → t.seenGrant = g) ∧
      match expandOf i ⟨t.latch, s.mem, s.rom, t.seenGrant⟩ with
      | .error c => t.err = c ∧ t.fallback = false ∧ t.phase = .idle ∧ t.q = s.q
      | .items its fb b =>
        t.err = .none ∧ t.fallback = fb ∧ (its = [] → t.phase = .idle ∧ t.q = s.q) ∧
          (its ≠ [] → t.phase = .busy ∧ t.q = its ∧ t.bulk = b)

/-- R18: a write to `CMD` while idle issues the word and `CMD` then reads it, legal or not; while busy it is dropped;
a read returns the last accepted word, 0 after reset, with no side effect. -/
def Obligations.CmdWriteIssuesOrIsDropped : Prop :=
  State.reset.cmd = 0#32 ∧
  (∀ (s : State) (off : Offset) (w : Word) (rest : List Event), s.agenda = .hostWrite off w :: rest →
    off.toNat / 4 = 0 →
    (s.phase = .idle → ∃ t, step s = .next t ∧ t.cmd = w ∧ t.latch.word = w ∧ t.latch.args = s.args) ∧
    (s.phase = .busy → step s = .next { s with agenda := rest, overrun := true })) ∧
  (∀ (s : State) (off : Offset) (rest : List Event), s.agenda = .hostRead off :: rest → off.toNat / 4 = 0 →
    step s = .next { s with agenda := rest, readData := s.cmd }) ∧
  ∀ (i : Instr) (s : State), s.phase = .busy → exec i s = .next { s with overrun := true }

/-- FRAME of every command (R33, R35, R47): the accept step changes nothing but `CMD`, `L`, `ERR`, `FALLBACK`, `Q`,
the phase and the bulk buffer (and the model's record of draw and snapshot), or `OVERRUN` alone if it was dropped;
every byte of the source memory reads as before, in every form. -/
def Obligations.IssuingACommandFrame : Prop :=
  ∀ (i : Instr) (s t : State), exec i s = .next t →
    (s.phase = .idle → AcceptFrame s t) ∧ (s.phase = .busy → t = { s with overrun := true }) ∧
    (∀ a, Memory.readByte t.mem a = Memory.readByte s.mem a) ∧ t.rom = s.rom ∧ t.trace = s.trace ∧
    t.args = s.args ∧ t.winv = s.winv ∧ t.orient = s.orient ∧
    (t.winXs, t.winYs, t.winXe, t.winYe) = (s.winXs, s.winYs, s.winXe, s.winYe) ∧
    (t.panelW, t.panelH, t.controllerId, t.bulkEn) = (s.panelW, s.panelH, s.controllerId, s.bulkEn)

/-- R126: `NOP` clears `ERR` and `FALLBACK` and changes nothing else; the words 0x100 and 0x200 are illegal. -/
def Obligations.NopCompletes : Prop :=
  (∀ s : State, s.phase = .idle → CompletesAtOnce .nop s) ∧
  decode? 0x00000000#32 = some .nop ∧ decode? 0x00000100#32 = none ∧ decode? 0x00000200#32 = none

/-- R89, R90, R91: the raw transport commands start on exactly their items, for every operand; the high byte of `A0`
is ignored by the byte forms, and `WRDATA16` sends the high byte first. -/
def Obligations.TransportCommandsStart : Prop :=
  ∀ s : State, s.phase = .idle →
    StartsWith .wrcmd s [.mark .winInvalid, .tx ⟨.command, [s.args.a0.extractLsb' 0 8]⟩] false none ∧
    StartsWith .wrdata8 s [.tx ⟨.data, [s.args.a0.extractLsb' 0 8]⟩] false none ∧
    StartsWith .wrdata16 s [.tx ⟨.data, [s.args.a0.extractLsb' 8 8, s.args.a0.extractLsb' 0 8]⟩] false none

/-- R96: `SETWIN` starts on the window sequence of a valid window, without a restore, and rejects any other. -/
def Obligations.SetwinStartsOrRejects : Prop :=
  ∀ s : State, s.phase = .idle →
    (windowRow .setwin s 0 = true →
      StartsWith .setwin s (windowItems s (s.argInt 0) (s.argInt 1) (s.argInt 2) (s.argInt 3)) false none) ∧
    (windowRow .setwin s 0 = false → RejectedWith .setwin s .invalidWindow)

/-- R127: `SETORIENT` starts on the stale-window mark, the two transactions and the orientation mark; performed with
every transaction answered `Ok` it leaves `ORIENT = dir`, `WINV = 0`, `ERR = 0`; a direction above 3 is rejected. -/
def Obligations.SetorientTurnsTheDisplay : Prop :=
  ∀ s : State, s.phase = .idle → s.stalled = false →
    (s.args.a0.toNat > 3 → RejectedWith .setorient s .invalidArgument) ∧
    (s.args.a0.toNat ≤ 3 →
      ∃ data : Byte, data = [s.madctl0, s.madctl1, s.madctl2, s.madctl3].getD s.args.a0.toNat 0#8 ∧
      StartsWith .setorient s
        [.mark .winInvalid, .tx ⟨.command, [s.opcMadctl]⟩, .tx ⟨.data, [data]⟩,
          .mark (.setOrient (s.args.a0.setWidth 2))] false none ∧
      ∀ t, exec .setorient s = .next t → t.agenda = List.replicate 4 (.engine .ok) →
        ∃ u, runSteps 4 t = .next u ∧ u.orient.toNat = s.args.a0.toNat ∧ u.winv = false ∧ u.err = .none ∧
          u.phase = .idle ∧
          u.trace = s.trace ++ [.carried ⟨.command, [s.opcMadctl]⟩, .carried ⟨.data, [data]⟩])

/-- R99: `POINT` starts on one plot and the restore if the point is on screen, and is rejected otherwise. -/
def Obligations.PointStartsOrRejects : Prop :=
  ∀ s : State, s.phase = .idle →
    (windowRow .point s 0 = true →
      StartsWith .point s (plotItems s s.args.a2 (s.argInt 0, s.argInt 1) ++ restoreItems s) false none) ∧
    (windowRow .point s 0 = false → RejectedWith .point s .invalidWindow)

/-- R98, R100: `LINE` starts on the plots of the closed form, in order, and the restore if both endpoints are on
screen, and is rejected otherwise. -/
def Obligations.LineFollowsTheClosedForm : Prop :=
  ∀ s : State, s.phase = .idle →
    (windowRow .line s 0 = true →
      StartsWith .line s
        ((closedLine (s.argInt 0) (s.argInt 1) (s.argInt 2) (s.argInt 3)).flatMap (plotItems s s.args.a4) ++
          restoreItems s) false none) ∧
    (windowRow .line s 0 = false → RejectedWith .line s .invalidWindow)

/-- R101: `RECT` starts on the top, left, bottom and right lines and the restore, `2w + 2h` plots in all; reversed or
off-screen corners are rejected. -/
def Obligations.RectOutlineIsFourLines : Prop :=
  ∀ s : State, s.phase = .idle →
    let x0 := s.argInt 0
    let y0 := s.argInt 1
    let x1 := s.argInt 2
    let y1 := s.argInt 3
    let points := closedLine x0 y0 x1 y0 ++ closedLine x0 y0 x0 y1 ++ closedLine x0 y1 x1 y1 ++ closedLine x1 y0 x1 y1
    (windowRow .rect s 0 = true →
      StartsWith .rect s (points.flatMap (plotItems s s.args.a4) ++ restoreItems s) false none ∧
      (points.length : Int) = 2 * (x1 - x0 + 1) + 2 * (y1 - y0 + 1)) ∧
    (windowRow .rect s 0 = false → RejectedWith .rect s .invalidWindow)

/-- R102: `RECTF` starts on one window, exactly `(x1-x0+1)*(y1-y0+1)` pixels of its colour, and the restore. -/
def Obligations.RectfFloodsTheWindow : Prop :=
  ∀ s : State, s.phase = .idle →
    (windowRow .rectf s 0 = true →
      StartsWith .rectf s
        (windowItems s (s.argInt 0) (s.argInt 1) (s.argInt 2) (s.argInt 3) ++
          List.replicate ((s.args.a2.toNat - s.args.a0.toNat + 1) * (s.args.a3.toNat - s.args.a1.toNat + 1))
            (pixelItem s.args.a4) ++
          restoreItems s) false none) ∧
    (windowRow .rectf s 0 = false → RejectedWith .rectf s .invalidWindow)

/-- R103, R104, R106: `CIRCLE` starts on the plots of the octant groups of a chain of the midpoint recurrence, in
order, and the restore if the bounding square is on screen, and is rejected otherwise. -/
def Obligations.CircleOutlineFollowsTheRecurrence : Prop :=
  ∀ s : State, s.phase = .idle →
    (windowRow .circle s 0 = true →
      ∃ k, StepChain (s.argInt 2) k ∧
        StartsWith .circle s
          ((k.flatMap fun p => octants (s.argInt 0) (s.argInt 1) p.1 p.2.1).flatMap (plotItems s s.args.a3) ++
            restoreItems s) false none) ∧
    (windowRow .circle s 0 = false → RejectedWith .circle s .invalidWindow)

/-- R103, R104, R107: `CIRCLEF` starts on the plots of the octant groups swept from `a` to `b` at each step of the
recurrence, in order, and the restore if the bounding square is on screen, and is rejected otherwise. -/
def Obligations.CircleFillSweepsEachStep : Prop :=
  ∀ s : State, s.phase = .idle →
    (windowRow .circlef s 0 = true →
      ∃ k, StepChain (s.argInt 2) k ∧
        StartsWith .circlef s
          ((k.flatMap fun p => (intRange p.1 p.2.1).flatMap fun i => octants (s.argInt 0) (s.argInt 1) p.1 i).flatMap
              (plotItems s s.args.a3) ++
            restoreItems s) false none) ∧
    (windowRow .circlef s 0 = false → RejectedWith .circlef s .invalidWindow)

/-- R112: `TRI` starts on its three edges in operand order and the restore if all vertices are on screen, and is
rejected otherwise. -/
def Obligations.TriangleOutlineIsThreeLines : Prop :=
  ∀ s : State, s.phase = .idle →
    (windowRow .tri s 0 = true →
      StartsWith .tri s
        ((closedLine (s.argInt 0) (s.argInt 1) (s.argInt 2) (s.argInt 3) ++
            closedLine (s.argInt 2) (s.argInt 3) (s.argInt 4) (s.argInt 5) ++
            closedLine (s.argInt 4) (s.argInt 5) (s.argInt 0) (s.argInt 1)).flatMap (plotItems s s.args.a6) ++
          restoreItems s) false none) ∧
    (windowRow .tri s 0 = false → RejectedWith .tri s .invalidWindow)

/-- R110, R113: `TRIF` starts on the spans of the closed form of its vertices sorted by row, and the restore if all
vertices are on screen, and is rejected otherwise. -/
def Obligations.TriangleFillIsOneSpanARow : Prop :=
  ∀ s : State, s.phase = .idle →
    let v := sortY (s.argInt 0, s.argInt 1) (s.argInt 2, s.argInt 3) (s.argInt 4, s.argInt 5)
    (windowRow .trif s 0 = true →
      StartsWith .trif s
        ((closedSpans v.1 v.2.1 v.2.2).flatMap (scanItems s s.args.a6) ++ restoreItems s) false none) ∧
    (windowRow .trif s 0 = false → RejectedWith .trif s .invalidWindow)

/-- R119: the checks of `TEXTCHAR` in their order, and the glyph it starts on: a whole cell, or in overlay mode one
plot for each foreground pixel. -/
def Obligations.TextcharRendersOneGlyph : Prop :=
  ∀ (s : State) (ov : Bool), s.phase = .idle →
    let size := s.args.a5.toNat
    let code := s.args.a4.toNat
    (¬(size = 12 ∨ size = 16) → RejectedWith (.textchar ov) s .unsupportedGlyphSize) ∧
    ((size = 12 ∨ size = 16) → ¬(0x20 ≤ code ∧ code ≤ 0x7E) → RejectedWith (.textchar ov) s .invalidArgument) ∧
    ((size = 12 ∨ size = 16) → (0x20 ≤ code ∧ code ≤ 0x7E) →
      (windowRow (.textchar ov) s 1 = false → RejectedWith (.textchar ov) s .invalidWindow) ∧
      (windowRow (.textchar ov) s 1 = true →
        Finishes (.textchar ov) s
          (if ov then overlayItems s s.args.a2 size (s.argInt 0) (s.argInt 1) code
           else cellItems s s.args.a2 s.args.a3 size (s.argInt 0) (s.argInt 1) code)))

/-- R118, R120: the checks of `TEXTSTR` in their order, and the run of glyphs it starts on: the printable bytes of the
counted string, glyph `k` of them at `x + k*GW`. -/
def Obligations.TextstrRendersPrintableBytes : Prop :=
  ∀ (s : State) (ov : Bool), s.phase = .idle →
    let size := s.args.a5.toNat
    let codes := stringCodes s
    (¬(size = 12 ∨ size = 16) → RejectedWith (.textstr ov) s .unsupportedGlyphSize) ∧
    ((size = 12 ∨ size = 16) → codes = [] → CompletesAtOnce (.textstr ov) s) ∧
    ((size = 12 ∨ size = 16) → codes ≠ [] →
      (windowRow (.textstr ov) s codes.length = false → RejectedWith (.textstr ov) s .invalidWindow) ∧
      (windowRow (.textstr ov) s codes.length = true →
        Finishes (.textstr ov) s (runItems s ov s.args.a2 s.args.a3 size (s.argInt 0) (s.argInt 1) codes)))

/-- R118, R121: the checks of `TEXTCTR` in their order, and the centred run of glyphs it starts on, the odd column on
the right and the odd row below. -/
def Obligations.TextctrCentresPrintableBytes : Prop :=
  ∀ (s : State) (ov : Bool), s.phase = .idle →
    let size := s.args.a5.toNat
    let codes := stringCodes s
    let n := codes.length * (size / 2)
    (¬(size = 12 ∨ size = 16) → RejectedWith (.textctr ov) s .unsupportedGlyphSize) ∧
    ((size = 12 ∨ size = 16) → codes = [] → CompletesAtOnce (.textctr ov) s) ∧
    ((size = 12 ∨ size = 16) → codes ≠ [] →
      (windowRow (.textctr ov) s codes.length = false → RejectedWith (.textctr ov) s .invalidWindow) ∧
      (windowRow (.textctr ov) s codes.length = true →
        Finishes (.textctr ov) s
          (runItems s ov s.args.a2 s.args.a3 size (((s.width.toNat - n) / 2 : Nat) : Int)
            (((s.height.toNat - size) / 2 : Nat) : Int) codes)))

/-- R122, R123: the checks of `NUMERIC` in their order, and the fixed field of digits it starts on. -/
def Obligations.NumericRendersAFixedField : Prop :=
  ∀ (s : State) (ov : Bool), s.phase = .idle →
    let size := s.args.a5.toNat
    let n := s.args.a4.toNat
    (n = 0 → CompletesAtOnce (.numeric ov) s) ∧
    (n ≠ 0 → ¬(size = 12 ∨ size = 16) → RejectedWith (.numeric ov) s .unsupportedGlyphSize) ∧
    (n ≠ 0 → (size = 12 ∨ size = 16) →
      (windowRow (.numeric ov) s n = false → RejectedWith (.numeric ov) s .invalidWindow) ∧
      (windowRow (.numeric ov) s n = true →
        Finishes (.numeric ov) s
          (runItems s ov s.args.a2 s.args.a3 size (s.argInt 0) (s.argInt 1) (digitCodes s.argWide n))))

/-- R122: `Digits(v, n)` has `n` codes which show `v mod 10^n`, spaces in front only, and the last one is a digit. That
a zero in front of the last place is a space, also where a higher digit was truncated, is the model's reading of R122
against vector V-N8 (DEDUCED, log entry 11). -/
def Obligations.DigitsShowTheValue : Prop :=
  ∀ v n : Nat, 1 ≤ n →
    (digitCodes v n).length = n ∧ shownValue (digitCodes v n) = v % 10 ^ n ∧
    ∃ k ds, digitCodes v n = List.replicate k 0x20 ++ ds ∧ ds ≠ [] ∧ (∀ c ∈ ds, 0x30 ≤ c ∧ c ≤ 0x39) ∧
      (ds.head? = some 0x30 → k = n - 1)

/-- R124: `BLIT` starts on one window, pixel `k` being the two bytes at `addr + 2k` with the higher-addressed one sent
first, and the restore; a zero size or a rectangle that leaves the screen is rejected. -/
def Obligations.BlitStreamsTheRaster : Prop :=
  ∀ s : State, s.phase = .idle →
    (windowRow .blit s 0 = true →
      StartsWith .blit s
        (windowItems s (s.argInt 0) (s.argInt 1) (s.argInt 0 + s.argInt 2 - 1) (s.argInt 1 + s.argInt 3 - 1) ++
          ((List.range (s.args.a2.toNat * s.args.a3.toNat)).map fun k =>
            Item.tx ⟨.data, [Memory.readByte s.mem ((s.argWide + 2 * k + 1) % 2 ^ 32),
              Memory.readByte s.mem ((s.argWide + 2 * k) % 2 ^ 32)]⟩) ++
          restoreItems s) false none) ∧
    (windowRow .blit s 0 = false → RejectedWith .blit s .invalidWindow)

/-- R22, R125, R137: `FILLSCR` starts on the full window, the pixels, and the restore: one bulk transaction if the bulk
path is enabled and the buffer granted, else one transaction a pixel, with `FALLBACK` if the path was enabled. The
statement holds for either draw. -/
def Obligations.FillscrFillsTheScreen : Prop :=
  ∀ s : State, s.phase = .idle →
    let n := s.width.toNat * s.height.toNat
    let hi := s.args.a0.extractLsb' 8 8
    let lo := s.args.a0.extractLsb' 0 8
    (s.bulkEn = true → s.bulkGrant = true →
      StartsWith .fillscr s
        (restoreItems s ++ [.tx ⟨.data, (List.replicate n [hi, lo]).flatten⟩] ++ restoreItems s) false
        (some ⟨n, s.args.a0⟩)) ∧
    ((s.bulkEn = false ∨ s.bulkGrant = false) →
      StartsWith .fillscr s
        (restoreItems s ++ List.replicate n (.tx ⟨.data, [hi, lo]⟩) ++ restoreItems s) s.bulkEn none)

/-- R125: the bulk path and the streamed path put the same bytes on the wire and leave every observer the same. -/
def Obligations.FillPathsAgreeOnThePanel : Prop :=
  ∀ (v : View) (p : PanelParams) (o : Panel),
    let bulk := txsOf (expandFillscr { v with grant := true }).list
    let streamed := txsOf (expandFillscr { v with grant := false }).list
    wireBytes bulk = wireBytes streamed ∧
      Panel.observe p o (bulk.map BusEvent.carried) = Panel.observe p o (streamed.map BusEvent.carried)

/-- R76, R77: a command's expansion depends on no argument register its row of R77 does not list, and not on the rest
of the latched word. -/
def Obligations.ExpansionReadsOnlyItsOperands : Prop :=
  ∀ (i : Instr) (v : View) (word : Word) (args : ArgRegs), (∀ r ∈ i.argRegs, args.get r = v.latch.args.get r) →
    expandOf i { v with latch := { v.latch with word := word, args := args } } = expandOf i v

/-- R35, R40, R76: only `TEXTSTR`, `TEXTCTR` and `BLIT` read the source memory, only the text commands read the glyph
ROM, and only `FILLSCR` reads the grant. -/
def Obligations.OnlyNamedCommandsReadMemoryRomGrant : Prop :=
  ∀ (i : Instr) (v : View) (m : List Host.Cell) (rom : GlyphRom) (g : Bool),
    ((∀ ov, i ≠ .textstr ov) → (∀ ov, i ≠ .textctr ov) → i ≠ .blit → expandOf i { v with mem := m } = expandOf i v) ∧
    ((∀ ov, i ≠ .textchar ov) → (∀ ov, i ≠ .textstr ov) → (∀ ov, i ≠ .textctr ov) → (∀ ov, i ≠ .numeric ov) →
      expandOf i { v with rom := rom } = expandOf i v) ∧
    (i ≠ .fillscr → expandOf i { v with grant := g } = expandOf i v)

/-! ## The engine, faults, reset -/

/-- R36: one engine step performs the head item: a mark updates its registers, a transaction answered `Ok` is carried
whole, one that is not answered leaves the engine busy; the phase becomes `Idle` exactly when no item is left. -/
def Obligations.EngineStepPerformsTheHeadItem : Prop :=
  ∀ (s : State) (ans : BusAnswer) (rest : List Event) (tl : List Item), s.agenda = .engine ans :: rest →
    s.phase = .busy → s.stalled = false →
    (∀ a b c d, s.q = .mark (.winShadow a b c d) :: tl →
      step s = .next { s with
        agenda := rest, winXs := a, winYs := b, winXe := c, winYe := d, winv := true, q := tl,
        performed := s.performed + 1, phase := if tl = [] then .idle else .busy,
        bulk := if tl = [] then none else s.bulk }) ∧
    (s.q = .mark .winInvalid :: tl →
      step s = .next { s with
        agenda := rest, winv := false, q := tl, performed := s.performed + 1,
        phase := if tl = [] then .idle else .busy, bulk := if tl = [] then none else s.bulk }) ∧
    (∀ d, s.q = .mark (.setOrient d) :: tl →
      step s = .next { s with
        agenda := rest, orient := d, q := tl, performed := s.performed + 1,
        phase := if tl = [] then .idle else .busy, bulk := if tl = [] then none else s.bulk }) ∧
    (∀ t, s.q = .tx t :: tl → ans = .ok →
      step s = .next { s with
        agenda := rest, trace := s.trace ++ [.carried t], q := tl, performed := s.performed + 1,
        phase := if tl = [] then .idle else .busy, bulk := if tl = [] then none else s.bulk }) ∧
    (∀ t, s.q = .tx t :: tl → ans = .noAnswer → step s = .next { s with agenda := rest, stalled := true })

/-- R135: `Fault(k)` abandons the rest of the expansion, clears `WINV`, sets `ERR` to `TRANSPORT_FAULT`, releases the
bulk buffer and leaves the engine idle; the first `k` bytes reached the panel; everything else stays. -/
def Obligations.TransportFaultAbandonsTheCommand : Prop :=
  ∀ (s : State) (k : Nat) (rest : List Event) (t : Tx) (tl : List Item), s.agenda = .engine (.fault k) :: rest →
    s.phase = .busy → s.stalled = false → s.q = .tx t :: tl → k ≤ t.bytes.length →
    step s = .next { s with
      agenda := rest, q := [], winv := false, err := .transportFault, bulk := none, phase := .idle,
      trace := s.trace ++ [.broken t k] }

/-- R136: after a transaction that is never answered the engine waits for ever: however many steps follow without a
reset, it stays busy on the same items and carries nothing, and no command is accepted; a reset leaves that state. -/
def Obligations.StallLastsUntilReset : Prop :=
  ∀ s : State, s.phase = .busy → s.stalled = true →
    (∀ n, (∀ cut, Event.reset cut ∉ s.agenda) →
      ∃ t, runSteps n s = .next t ∧ t.phase = .busy ∧ t.stalled = true ∧ t.q = s.q ∧ t.trace = s.trace ∧
        t.cmd = s.cmd ∧ t.latch = s.latch) ∧
    ∀ cut rest, s.agenda = .reset cut :: rest → ∃ t, step s = .next t ∧ t.phase = .idle ∧ t.stalled = false

/-- R149: what reset leaves in every register and in the engine; the source memory and the glyph ROM are unchanged; a
transaction on the bus is cut after a prefix of its bytes; the command is abandoned without an outcome. `MADCTL0` to
`MADCTL3` take the build parameter `MADCTL_RESET` (R31), which in `State.reset` is the table R149 states; that table and
the opcode values are those R149 marks as general knowledge (log entry 14); the cut is log entry 17. -/
def Obligations.ResetPutsTheCoreInItsResetState : Prop :=
  State.reset.madctlReset = ⟨0x00#8, 0x60#8, 0xC0#8, 0xA0#8⟩ ∧
  (State.reset.madctl0, State.reset.madctl1, State.reset.madctl2, State.reset.madctl3) =
    (0x00#8, 0x60#8, 0xC0#8, 0xA0#8) ∧
  ∀ (s : State) (cut : Option Nat) (rest : List Event), s.agenda = .reset cut :: rest →
    ∃ t, step s = .next t ∧ t.cmd = 0#32 ∧ t.phase = .idle ∧ t.winv = false ∧ t.fallback = false ∧
      t.overrun = false ∧ t.err = .none ∧ t.bulkEn = false ∧ t.orient = 0#2 ∧ t.panelW = 128#16 ∧ t.panelH = 160#16 ∧
      t.width = 128#16 ∧ t.height = 160#16 ∧ t.controllerId = 0#16 ∧
      (t.opcCaset, t.opcRaset, t.opcRamwr, t.opcMadctl) = (0x2A#8, 0x2B#8, 0x2C#8, 0x36#8) ∧
      t.madctlReset = s.madctlReset ∧
      (t.madctl0, t.madctl1, t.madctl2, t.madctl3) =
        (s.madctlReset.m0, s.madctlReset.m1, s.madctlReset.m2, s.madctlReset.m3) ∧
      (t.winXs, t.winYs, t.winXe, t.winYe) = (0#8, 0#8, 0#8, 0#8) ∧ (∀ i, t.args.get i = 0#16) ∧ t.q = [] ∧
      t.bulk = none ∧ t.stalled = false ∧ t.rom = s.rom ∧ t.mem = s.mem ∧ t.statusWord = 0#32 ∧
      ((s.phase = .idle ∨ (s.stalled = false ∧ cut = none)) → t.trace = s.trace) ∧
      ∀ x tl, s.phase = .busy → s.q = .tx x :: tl → (s.stalled = true ∨ cut ≠ none) →
        ∃ k, k ≤ x.bytes.length ∧ t.trace = s.trace ++ [.broken x k] ∧
          ∀ k', cut = some k' → k' ≤ x.bytes.length → k = k'

/-- R20, R36, R55, R56: with every transaction answered `Ok`, a busy engine performs the rest of its expansion in
order and becomes idle: the transactions are carried one by one, the marks applied in order, and nothing else of the
registers changes. -/
def Obligations.EngineRunsTheExpansionToItsEnd : Prop :=
  ∀ (s : State) (rest : List Event), s.Inv → s.phase = .busy → s.stalled = false →
    s.agenda = List.replicate s.q.length (.engine .ok) ++ rest →
    let m := (marksOf s.q).foldl State.applyMark s
    runSteps s.q.length s = .next { s with
      agenda := rest, q := [], phase := .idle, bulk := none, performed := s.performed + s.q.length,
      trace := s.trace ++ (txsOf s.q).map BusEvent.carried, winXs := m.winXs, winYs := m.winYs, winXe := m.winXe,
      winYe := m.winYe, winv := m.winv, orient := m.orient }

/-- R32, R94: a drawing command that is accepted and emits anything, performed with every transaction answered `Ok`,
ends with `ERR = 0` and the full-screen window of the current orientation in the shadow, valid. -/
def Obligations.DrawingEndsWithTheFullScreenWindow : Prop :=
  ∀ (i : Instr) (s t : State), s.Inv → s.phase = .idle → isDrawing i = true → exec i s = .next t → t.phase = .busy →
    ∀ rest, t.agenda = List.replicate t.q.length (.engine .ok) ++ rest →
    ∃ u, runSteps t.q.length t = .next u ∧ u.phase = .idle ∧ u.err = .none ∧ u.winv = true ∧ u.winXs = 0#8 ∧
      u.winYs = 0#8 ∧ u.winXe.toNat = s.width.toNat - 1 ∧ u.winYe.toNat = s.height.toNat - 1 ∧
      u.trace = s.trace ++ (txsOf t.q).map BusEvent.carried ∧ u.orient = s.orient

/-! ## Invariants -/

/-- R20, R28, R34, R136: every step from a state with the invariant ends in a next state with the invariant. -/
def Obligations.EveryStepKeepsTheInvariant : Prop :=
  ∀ s : State, s.Inv → ∃ t, step s = .next t ∧ t.Inv

/-- R149: the machine after reset has the invariant, and its window shadow is not marked valid. -/
def Obligations.ResetHasTheInvariant : Prop :=
  State.reset.Inv ∧ State.reset.winv = false ∧ State.reset.shadowOrdered

/-- R92, R132: every `WinShadow` mark of every expansion names a window that lies on the latched screen, for all
dimensions up to 256. It speaks of the marks, not of the bytes sent. -/
def Obligations.EveryProgrammedWindowIsOnScreen : Prop :=
  ∀ (i : Instr) (v : View), dimOk v.latch.cfg.width → dimOk v.latch.cfg.height →
    ∀ m ∈ marksOf (expandOf i v).list, m.within v.latch.cfg

/-- R21, R32, R92: in every state a step reaches from one with the invariant, a valid window shadow is an ordered
window. -/
def Obligations.ValidShadowStaysAWindow : Prop :=
  ∀ s t : State, s.Inv → s.shadowOrdered → step s = .next t → t.shadowOrdered

/-- What the rules say: a platform write changes the source memory (R44); every byte the running command then reads is
the old one or one the platform wrote under it (R46, R152); a command that runs is not rejected any more, so a late read
never changes `ERR` (R134); a command that reads no source memory keeps its items. THE REST IS THE MODEL'S CHOICE (log
entry 8: DESIGN CHOICE, unsafe where the platform breaks the duty of R152), and no rule says it: that the new values are
read by a move of its own, of bytes noted in `racing`; that all bytes of a command come from ONE mixture of old and new
values, the items already performed being the first of its expansion and the rest of it being what the command goes on
with; that a mixture which disagrees with the items performed, or whose expansion is an error, keeps the old values; and
that nothing changes for bytes that were not noted, for a stuck transaction and in phase `Idle`. -/
def Obligations.RacingWriteChangesOnlyTheRest : Prop :=
  (∀ (s : State) (addr : Word) (b : Byte) (rest : List Event), s.agenda = .memWrite addr b :: rest →
    step s = .next { s with
      agenda := rest, mem := Memory.writeByte s.mem addr.toNat b,
      racing := if s.phase = .busy then s.racing ++ [⟨addr, b⟩] else s.racing }) ∧
  ∀ (s : State) (bytes : List RacingByte) (rest : List Event), s.Inv → s.agenda = .lateRead bytes :: rest →
    ∃ t, step s = .next t ∧
      t = { s with
            agenda := rest, seenMem := t.seenMem, q := t.q, phase := t.phase, bulk := t.bulk } ∧
      (∀ a, Memory.readByte t.seenMem a = Memory.readByte s.seenMem a ∨
        ∃ b ∈ s.racing, b.addr.toNat = a ∧ Memory.readByte t.seenMem a = b.value) ∧
      ((s.phase = .idle ∨ s.stalled = true ∨ ∃ b ∈ bytes, b ∉ s.racing) → t = { s with agenda := rest }) ∧
      (∀ i, decode s.cmd = .ok i → (∀ ov, i ≠ .textstr ov) → (∀ ov, i ≠ .textctr ov) → i ≠ .blit →
        t = { s with agenda := rest, seenMem := t.seenMem }) ∧
      ∀ i old fb bk, decode s.cmd = .ok i → expandOf i (s.runningView s.seenMem) = .items old fb bk →
        s.phase = .busy → s.stalled = false → (∀ b ∈ bytes, b ∈ s.racing) →
        match expandOf i (s.runningView (memWith s.seenMem bytes)) with
        | .error _ => t = { s with agenda := rest }
        | .items its _ _ =>
          if its.take s.performed = old.take s.performed then
            t.seenMem = memWith s.seenMem bytes ∧ t.q = its.drop s.performed ∧
              (t.phase = .idle ↔ its.drop s.performed = [])
          else t = { s with agenda := rest }

/-! ## The rasterizers -/

/-- R98: a line has `max(|dx|, |dy|) + 1` plots, from its first endpoint to its last, each in the bounding box of the
two and within 1 of the one before it in each coordinate. -/
def Obligations.LineStaysInItsBox : Prop :=
  ∀ x0 y0 x1 y1 : Int,
    (linePoints x0 y0 x1 y1).length = max (x1 - x0).natAbs (y1 - y0).natAbs + 1 ∧
    (linePoints x0 y0 x1 y1).head? = some (x0, y0) ∧ (linePoints x0 y0 x1 y1).getLast? = some (x1, y1) ∧
    (∀ p ∈ linePoints x0 y0 x1 y1,
      min x0 x1 ≤ p.1 ∧ p.1 ≤ max x0 x1 ∧ min y0 y1 ≤ p.2 ∧ p.2 ≤ max y0 y1) ∧
    ∀ k p q, (linePoints x0 y0 x1 y1)[k]? = some p → (linePoints x0 y0 x1 y1)[k + 1]? = some q →
      (q.1 - p.1).natAbs ≤ 1 ∧ (q.2 - p.2).natAbs ≤ 1

/-- R105: for every radius the outline and the fill plot no pixel twice, the fill covers the outline, every plot lies
in the bounding square, the first outline plot is the topmost point, and every row of the fill is a contiguous run
symmetric about the centre: it holds every pixel that is no further from the centre column than one of its own. -/
def Obligations.DiscCoversItsCircle : Prop :=
  ∀ xc yc r : Int, 0 ≤ r →
    (circlePoints xc yc r).Nodup ∧ (discPoints xc yc r).Nodup ∧
    (∀ p ∈ circlePoints xc yc r, p ∈ discPoints xc yc r) ∧
    (∀ p ∈ discPoints xc yc r, xc - r ≤ p.1 ∧ p.1 ≤ xc + r ∧ yc - r ≤ p.2 ∧ p.2 ≤ yc + r) ∧
    (circlePoints xc yc r).head? = some (xc, yc - r) ∧
    ∀ p ∈ discPoints xc yc r, ∀ x : Int, (x - xc).natAbs ≤ (p.1 - xc).natAbs → (x, p.2) ∈ discPoints xc yc r

/-- R109: the three swaps order the vertices by non-decreasing row, lose none, and keep the input order of vertices of
equal rows. -/
def Obligations.VertexSortIsStable : Prop :=
  ∀ p0 p1 p2 : Int × Int,
    let s := sortY p0 p1 p2
    s.1.2 ≤ s.2.1.2 ∧ s.2.1.2 ≤ s.2.2.2 ∧ [s.1, s.2.1, s.2.2].Perm [p0, p1, p2] ∧
    ∀ y : Int, [s.1, s.2.1, s.2.2].filter (fun p => p.2 == y) = [p0, p1, p2].filter (fun p => p.2 == y)

/-- R111: the fill of a triangle has exactly one span for each row from its least to its greatest, in increasing
order, each within the columns of the vertices, and all three vertices are painted. -/
def Obligations.TriangleSpansCoverTheRows : Prop :=
  ∀ p0 p1 p2 : Int × Int,
    (triangleSpans p0 p1 p2).map Prod.fst =
      intRange (min p0.2 (min p1.2 p2.2)) (max p0.2 (max p1.2 p2.2)) ∧
    (∀ sp ∈ triangleSpans p0 p1 p2,
      min p0.1 (min p1.1 p2.1) ≤ sp.2.1 ∧ sp.2.1 ≤ sp.2.2 ∧ sp.2.2 ≤ max p0.1 (max p1.1 p2.1)) ∧
    ∀ p ∈ [p0, p1, p2], ∃ sp ∈ triangleSpans p0 p1 p2, sp.1 = p.2 ∧ sp.2.1 ≤ p.1 ∧ p.1 ≤ sp.2.2

/-- R159: how many transactions and bytes each command puts on the bus, where its expansion is not an error or empty;
the plot count of a circle is that of the octant groups of its recurrence, the spans of a filled triangle are those of
the closed form, and a glyph in overlay mode is one plot for each set bit. -/
def Obligations.StreamLengths : Prop :=
  (∀ v : View, expandOf .nop v = .items [] false none) ∧
  ∀ (v : View) (its : List Item) (fb : Bool) (b : Option BulkBuffer), its ≠ [] →
    let tx := (txsOf its).length
    let bytes := (wireBytes (txsOf its)).length
    let a := fun k : Fin 8 => (v.latch.args.get k).toNat
    let plots := fun p : Nat => tx = 12 * p + 11 ∧ bytes = 13 * p + 11
    let edge := fun x0 y0 x1 y1 : Nat => max ((x1 : Int) - x0).natAbs ((y1 : Int) - y0).natAbs + 1
    let n := v.latch.cfg.width.toNat * v.latch.cfg.height.toNat
    let glyphs := fun (ov : Bool) (codes : List Nat) =>
      if ov then plots (codes.map (glyphDots v.rom (a 5))).sum
      else
        tx = codes.length * (11 + a 5 / 2 * a 5) + 11 ∧ bytes = codes.length * (11 + 2 * (a 5 / 2 * a 5)) + 11
    let wide := a 7 * 2 ^ 16 + a 6
    (expandOf .wrcmd v = .items its fb b → tx = 1 ∧ bytes = 1) ∧
    (expandOf .wrdata8 v = .items its fb b → tx = 1 ∧ bytes = 1) ∧
    (expandOf .wrdata16 v = .items its fb b → tx = 1 ∧ bytes = 2) ∧
    (expandOf .setwin v = .items its fb b → tx = 11 ∧ bytes = 11) ∧
    (expandOf .setorient v = .items its fb b → tx = 2 ∧ bytes = 2) ∧
    (expandOf .point v = .items its fb b → tx = 23 ∧ bytes = 24) ∧
    (expandOf .line v = .items its fb b → plots (edge (a 0) (a 1) (a 2) (a 3))) ∧
    (expandOf .rect v = .items its fb b → plots (2 * (a 2 - a 0 + 1) + 2 * (a 3 - a 1 + 1))) ∧
    (expandOf .rectf v = .items its fb b →
      tx = 22 + (a 2 - a 0 + 1) * (a 3 - a 1 + 1) ∧ bytes = 22 + 2 * ((a 2 - a 0 + 1) * (a 3 - a 1 + 1))) ∧
    (expandOf .circle v = .items its fb b →
      ∃ k, StepChain (a 2 : Int) k ∧ plots (k.flatMap fun p => octants (a 0) (a 1) p.1 p.2.1).length) ∧
    (expandOf .circlef v = .items its fb b →
      ∃ k, StepChain (a 2 : Int) k ∧
        plots (k.flatMap fun p => (intRange p.1 p.2.1).flatMap fun i => octants (a 0) (a 1) p.1 i).length) ∧
    (expandOf .tri v = .items its fb b →
      plots (edge (a 0) (a 1) (a 2) (a 3) + edge (a 2) (a 3) (a 4) (a 5) + edge (a 4) (a 5) (a 0) (a 1))) ∧
    (expandOf .trif v = .items its fb b →
      let p := sortY ((a 0 : Int), (a 1 : Int)) ((a 2 : Int), (a 3 : Int)) ((a 4 : Int), (a 5 : Int))
      let widths := (closedSpans p.1 p.2.1 p.2.2).map fun sp => (sp.2.2 - sp.2.1 + 1).toNat
      tx = (widths.map fun w => 11 + w).sum + 11 ∧ bytes = (widths.map fun w => 11 + 2 * w).sum + 11) ∧
    (∀ ov, expandOf (.textchar ov) v = .items its fb b → glyphs ov [a 4]) ∧
    (∀ ov, expandOf (.textstr ov) v = .items its fb b → glyphs ov (printableAt v.mem wide (a 4))) ∧
    (∀ ov, expandOf (.textctr ov) v = .items its fb b → glyphs ov (printableAt v.mem wide (a 4))) ∧
    (∀ ov, expandOf (.numeric ov) v = .items its fb b → glyphs ov (digitCodes wide (a 4))) ∧
    (expandOf .blit v = .items its fb b → tx = 22 + a 2 * a 3 ∧ bytes = 22 + 2 * (a 2 * a 3)) ∧
    (expandOf .fillscr v = .items its fb b → bytes = 22 + 2 * n ∧ (b = none → tx = 22 + n) ∧ (b ≠ none → tx = 23))

/-! ## The panel observer -/

/-- R61 to R64, R93, R95: whatever mode the observer is in, a valid window sequence followed by any number of pixels
writes exactly those pixels, row-major from the window's origin and wrapping to it. Where the panel's memory-access
opcode equals its set-column or set-row opcode, which R61 does not settle, it rests on the model's order of opcodes
(DESIGN CHOICE, log entry 10). -/
def Obligations.WindowStreamFillsRowMajor : Prop :=
  ∀ (c : LatchedCfg) (p : PanelParams) (o : Panel) (x0 y0 x1 y1 : Nat) (colours : List Half),
    p.caset = c.caset → p.raset = c.raset → p.ramwr = c.ramwr → c.raset ≠ c.caset → c.ramwr ≠ c.caset →
    c.ramwr ≠ c.raset → c.ramwr ≠ p.madctl → o.width ≤ 256 → o.height ≤ 256 → x0 ≤ x1 → x1 < o.width → y0 ≤ y1 →
    y1 < o.height →
    let stream := txsOf (winSeq c x0 y0 x1 y1) ++ colours.map Tx.data16
    let o' := Panel.observe p o (stream.map BusEvent.carried)
    let w := x1 - x0 + 1
    let h := y1 - y0 + 1
    o'.writes = o.writes ++ colours.zipIdx.map (fun q => (x0 + q.2 % w, y0 + q.2 / w % h, q.1)) ∧
      o'.tainted = (o.tainted || o.mode.interrupted) ∧ o'.mode = .ram none ∧ o'.width = o.width ∧ o'.height = o.height

/-- R67: after a broken transaction the observer knows no pixel, is corrupt and tainted, and ignores data bytes until a
command byte comes. -/
def Obligations.BrokenTransactionCorruptsThePanel : Prop :=
  ∀ (p : PanelParams) (o : Panel) (t : Tx) (k : Nat) (bs : List Byte),
    let o' := Panel.busEvent p o (.broken t k)
    o'.mode = .corrupt ∧ o'.tainted = true ∧ (∀ x y, o'.pixel x y = none) ∧
      Panel.bytes p o' .data bs = o' ∧ ∀ b, (Panel.byte p o' .command b).mode ≠ .corrupt

/-! ## Host programs -/

/-- R81, R82: running the accesses of a well-formed command line from an idle core writes its operands into the argument
registers its row lists and no other, and then issues the command. `WAIT` is a loop of `RD STATUS`: its turn reads
`STATUS` and changes nothing else, the loop goes on while the core is busy and ends when it is not, and whatever the
agents do, the host gets past it only by such a read made with the core idle. How a host's program runs beside the other
agents is the model's form of R13 (log entry 18). -/
def Obligations.CommandLineLoadsOperandsThenIssues : Prop :=
  (∀ (s : State) (rest : List HostOp),
    HostRun.turn ⟨s, HostLine.wait.ops ++ rest⟩ .host =
      .next ⟨{ s with readData := s.statusWord }, if s.phase = .busy then HostLine.wait.ops ++ rest else rest⟩) ∧
  (∀ (s : State) (rest : List HostOp) (ts : List Turn) (r : HostRun),
    HostRun.turns ⟨s, HostLine.wait.ops ++ rest⟩ ts = .next r → r.ops.length ≤ rest.length →
    ∃ (before after : List Turn) (u : State), ts = before ++ .host :: after ∧
      HostRun.turns ⟨s, HostLine.wait.ops ++ rest⟩ before = .next ⟨u, HostLine.wait.ops ++ rest⟩ ∧ u.phase = .idle ∧
      HostRun.turns ⟨{ u with readData := u.statusWord }, rest⟩ after = .next r) ∧
  ∀ (c : CommandLine) (s : State) (rest : List Event), c.wellFormed = true → s.phase = .idle →
    s.agenda = commandAccesses c ++ rest →
    ∃ args : ArgRegs, (∀ r, r ∉ c.instr.argRegs → args.get r = s.args.get r) ∧
      (∀ (k : Nat) (sl : OperandSlot) (v : Nat), c.instr.slots[k]? = some sl → c.operands[k]? = some v →
        match sl with
        | .byte r => (args.get r).toNat = v
        | .half r => (args.get r).toNat = v
        | .wide => args.a7.toNat * 2 ^ 16 + args.a6.toNat = v) ∧
      runSteps (commandAccesses c).length s = exec c.instr { s with args := args, agenda := rest }
end

