-- ==== Sys2Proof/Machine/HostBus.lean ====
section
/-! DEFINITION. The core on the host's bus (R14, R144): the platform places its 128-byte register block at a base
address, the parameter `CORE_BASE` (R5), and an access inside the block reaches the core as an offset. -/

namespace Sys2Proof.Machine

/-- How many bytes the register block has: offsets 0x00 to 0x7F (R144). -/
def blockSize : Nat := 0x80

/-- The offset of a host address in a register block at `base`; none outside the block (R14, R144). -/
def coreOffset (base addr : Nat) : Option Offset :=
  if base ≤ addr ∧ addr < base + blockSize then some (BitVec.ofNat 7 (addr - base)) else none

/-- A 32-bit access of a host agent at an address of the host's bus (R13, R14). -/
inductive HostAccess where
  | read (addr : Nat)
  | write (addr : Nat) (v : Word)
deriving DecidableEq, Repr

/-- What an access is to a core at `base`: a register access, or nothing if it goes elsewhere (R14, R144). -/
def HostAccess.move (base : Nat) : HostAccess → Option Event
  | .read addr => (coreOffset base addr).map .hostRead
  | .write addr v => (coreOffset base addr).map fun off => .hostWrite off v

/-- The moves a core at `base` sees of a sequence of host accesses. -/
def hostMoves (base : Nat) (as : List HostAccess) : List Event := as.filterMap (HostAccess.move base)

/-- The moves the core sees where the platform has placed it (R5: `CORE_BASE` is OPEN). -/
def platformMoves (as : List HostAccess) : List Event := hostMoves Config.coreBase as

end Sys2Proof.Machine
end

