-- ==== Sys2Proof/Laws/HostBus.lean ====
section
/-! SUPPORT. The core on the host's bus (R14, R144): what a host address is to it, at any base. -/

namespace Sys2Proof.Machine

/-- The address of an offset in the block reaches the core as that offset. -/
theorem coreOffset_inside (base : Nat) (off : Offset) : coreOffset base (base + off.toNat) = some off := by
  have h : off.toNat < blockSize := off.isLt
  simp [coreOffset, h]

/-- An address outside the block does not reach the core. -/
theorem coreOffset_outside {base addr : Nat} (h : addr < base ∨ base + blockSize ≤ addr) :
    coreOffset base addr = none := by
  unfold coreOffset
  rw [if_neg (by omega)]

/-- A read at the address of an offset is a register read at that offset. -/
theorem move_read_inside (base : Nat) (off : Offset) :
    (HostAccess.read (base + off.toNat)).move base = some (.hostRead off) := by
  simp [HostAccess.move, coreOffset_inside]

/-- A write at the address of an offset is a register write at that offset. -/
theorem move_write_inside (base : Nat) (off : Offset) (v : Word) :
    (HostAccess.write (base + off.toNat) v).move base = some (.hostWrite off v) := by
  simp [HostAccess.move, coreOffset_inside]

end Sys2Proof.Machine
end

