-- ==== Sys2Proof/Laws/Memory.lean ====
section
/-! SUPPORT. The laws of the source memory: a write keeps the canonical form, changes the byte written and no other. -/

namespace Sys2Proof.Machine

theorem Memory.wfFrom_nil (lo : Nat) : Memory.wfFrom lo [] = true := rfl

theorem Memory.wfFrom_cons {lo k : Nat} {b : Byte} {m : List Host.Cell} :
    Memory.wfFrom lo ((k, b) :: m) = true ↔
      lo ≤ k ∧ k < 2 ^ 32 ∧ b ≠ Memory.unlisted ∧ Memory.wfFrom (k + 1) m = true := by
  simp [Memory.wfFrom, and_assoc]

/-- A canonical list stays canonical from any lower start. -/
theorem Memory.wfFrom_mono {lo lo' : Nat} {m : List Host.Cell} (h : lo' ≤ lo) (hm : Memory.wfFrom lo m = true) :
    Memory.wfFrom lo' m = true := by
  cases m with
  | nil => rfl
  | cons c m =>
    obtain ⟨k, b⟩ := c
    rw [Memory.wfFrom_cons] at hm ⊢
    exact ⟨by omega, hm.2⟩

/-- An address below a canonical list is not listed in it. -/
theorem Memory.find?_of_lt {lo a : Nat} {m : List Host.Cell} (hm : Memory.wfFrom lo m = true) (h : a < lo) :
    Memory.find? m a = none := by
  induction m generalizing lo with
  | nil => rfl
  | cons c m ih =>
    obtain ⟨k, b⟩ := c
    rw [Memory.wfFrom_cons] at hm
    have hk : k ≠ a := by omega
    simp only [Memory.find?, hk, if_false]
    exact ih hm.2.2.2 (by omega)

theorem Memory.writeByte_wfFrom {lo a : Nat} {b : Byte} {m : List Host.Cell} (ha : a < 2 ^ 32) (hlo : lo ≤ a)
    (hm : Memory.wfFrom lo m = true) : Memory.wfFrom lo (Memory.writeByte m a b) = true := by
  induction m generalizing lo with
  | nil =>
    simp only [Memory.writeByte]
    split
    · rfl
    · exact Memory.wfFrom_cons.2 ⟨hlo, ha, by assumption, rfl⟩
  | cons c m ih =>
    obtain ⟨k, c⟩ := c
    have hc := Memory.wfFrom_cons.1 hm
    simp only [Memory.writeByte]
    split
    · split
      · exact hm
      · refine Memory.wfFrom_cons.2 ⟨hlo, ha, by assumption, Memory.wfFrom_cons.2 ⟨by omega, hc.2⟩⟩
    · split
      · split
        · exact Memory.wfFrom_mono (by omega) hc.2.2.2
        · subst a
          exact Memory.wfFrom_cons.2 ⟨hlo, ha, by assumption, hc.2.2.2⟩
      · exact Memory.wfFrom_cons.2 ⟨hc.1, hc.2.1, hc.2.2.1, ih (by omega) hc.2.2.2⟩

/-- A write inside the 2^32 bytes of R44 keeps the canonical form. -/
theorem Memory.writeByte_wf {a : Nat} {b : Byte} {m : List Host.Cell} (ha : a < 2 ^ 32) (hm : Memory.wf m = true) :
    Memory.wf (Memory.writeByte m a b) = true :=
  Memory.writeByte_wfFrom ha (Nat.zero_le _) hm

/-- A read after a write elsewhere gives what it gave before, in any list. -/
theorem Memory.readByte_writeByte_other {a a' : Nat} {b : Byte} (m : List Host.Cell) (h : a' ≠ a) :
    Memory.readByte (Memory.writeByte m a b) a' = Memory.readByte m a' := by
  have hne : a ≠ a' := fun e => h e.symm
  unfold Memory.readByte
  congr 1
  induction m with
  | nil =>
    simp only [Memory.writeByte]
    split <;> simp [Memory.find?, hne]
  | cons c m ih =>
    obtain ⟨k, c⟩ := c
    simp only [Memory.writeByte]
    split
    · split
      · rfl
      · simp [Memory.find?, hne]
    · split
      · next hk =>
        subst hk
        split
        · simp [Memory.find?, hne]
        · simp [Memory.find?, hne]
      · simp [Memory.find?, ih]

theorem Memory.find?_writeByte_same {lo a : Nat} {b : Byte} {m : List Host.Cell} (hm : Memory.wfFrom lo m = true) :
    (Memory.find? (Memory.writeByte m a b) a).getD Memory.unlisted = b := by
  induction m generalizing lo with
  | nil =>
    simp only [Memory.writeByte]
    split <;> simp [Memory.find?, *]
  | cons c m ih =>
    obtain ⟨k, c⟩ := c
    have hc := Memory.wfFrom_cons.1 hm
    simp only [Memory.writeByte]
    split
    · next hlt =>
      have hk : k ≠ a := by omega
      split
      · next hb =>
        simp [Memory.find?, hk, Memory.find?_of_lt hc.2.2.2 (by omega : a < k + 1), hb]
      · simp [Memory.find?]
    · split
      · next he =>
        subst he
        split
        · next hb => simp [Memory.find?_of_lt hc.2.2.2 (Nat.lt_succ_self a), hb]
        · simp [Memory.find?]
      · next hne =>
        have hk : k ≠ a := fun e => hne e.symm
        simp only [Memory.find?, hk, if_false]
        exact ih hc.2.2.2

/-- A read after a write to the same address gives the byte written. -/
theorem Memory.readByte_writeByte_same {a : Nat} {b : Byte} {m : List Host.Cell} (hm : Memory.wf m = true) :
    Memory.readByte (Memory.writeByte m a b) a = b :=
  Memory.find?_writeByte_same hm

/-- A mixture of old and new values keeps the canonical form (R46). -/
theorem memWith_wf {bytes : List RacingByte} {m : List Host.Cell} (hm : Memory.wf m = true) :
    Memory.wf (memWith m bytes) = true := by
  induction bytes generalizing m with
  | nil => exact hm
  | cons b bs ih => exact ih (Memory.writeByte_wf b.addr.isLt hm)

/-- Every byte of a mixture is the old one or one of the new ones (R46). -/
theorem memWith_readByte {bytes : List RacingByte} {m : List Host.Cell} (hm : Memory.wf m = true) (a : Nat) :
    Memory.readByte (memWith m bytes) a = Memory.readByte m a ∨
      ∃ b ∈ bytes, b.addr.toNat = a ∧ Memory.readByte (memWith m bytes) a = b.value := by
  induction bytes generalizing m with
  | nil => exact .inl rfl
  | cons b bs ih =>
    rcases ih (Memory.writeByte_wf (b := b.value) b.addr.isLt hm) with h | ⟨c, hc, h⟩
    · by_cases ha : a = b.addr.toNat
      · subst ha
        exact .inr ⟨b, List.mem_cons_self, rfl, h.trans (Memory.readByte_writeByte_same hm)⟩
      · exact .inl (h.trans (Memory.readByte_writeByte_other m ha))
    · exact .inr ⟨c, List.mem_cons_of_mem _ hc, h⟩

/-- Reset keeps the source memory (R149). -/
@[simp] theorem State.resetCore_mem (s : State) (cut : Option Nat) : (s.resetCore cut).mem = s.mem := rfl

/-- The memory of the reset state is in canonical form. -/
theorem State.reset_mem_wf : Memory.wf State.reset.mem = true := by decide

end Sys2Proof.Machine
end

