-- ==== Sys2Proof/Laws/State.lean ====
section
/-! SUPPORT. One lemma per field per named update of the state, true by rfl, so that no proof unfolds a record update.
The updates are those of Machine/Flags.lean, Machine/Ops.lean, Machine/Expand.lean and Machine/Events.lean. -/

namespace Sys2Proof.Machine

variable (s : State)

/-! ## `State.withAgenda` -/

@[simp] theorem State.withAgenda_cmd (a : List Event) : (s.withAgenda a).cmd = s.cmd := rfl
@[simp] theorem State.withAgenda_winv (a : List Event) : (s.withAgenda a).winv = s.winv := rfl
@[simp] theorem State.withAgenda_fallback (a : List Event) : (s.withAgenda a).fallback = s.fallback := rfl
@[simp] theorem State.withAgenda_overrun (a : List Event) : (s.withAgenda a).overrun = s.overrun := rfl
@[simp] theorem State.withAgenda_err (a : List Event) : (s.withAgenda a).err = s.err := rfl
@[simp] theorem State.withAgenda_bulkEn (a : List Event) : (s.withAgenda a).bulkEn = s.bulkEn := rfl
@[simp] theorem State.withAgenda_orient (a : List Event) : (s.withAgenda a).orient = s.orient := rfl
@[simp] theorem State.withAgenda_panelW (a : List Event) : (s.withAgenda a).panelW = s.panelW := rfl
@[simp] theorem State.withAgenda_panelH (a : List Event) : (s.withAgenda a).panelH = s.panelH := rfl
@[simp] theorem State.withAgenda_controllerId (a : List Event) : (s.withAgenda a).controllerId = s.controllerId := rfl
@[simp] theorem State.withAgenda_opcCaset (a : List Event) : (s.withAgenda a).opcCaset = s.opcCaset := rfl
@[simp] theorem State.withAgenda_opcRaset (a : List Event) : (s.withAgenda a).opcRaset = s.opcRaset := rfl
@[simp] theorem State.withAgenda_opcRamwr (a : List Event) : (s.withAgenda a).opcRamwr = s.opcRamwr := rfl
@[simp] theorem State.withAgenda_opcMadctl (a : List Event) : (s.withAgenda a).opcMadctl = s.opcMadctl := rfl
@[simp] theorem State.withAgenda_madctl0 (a : List Event) : (s.withAgenda a).madctl0 = s.madctl0 := rfl
@[simp] theorem State.withAgenda_madctl1 (a : List Event) : (s.withAgenda a).madctl1 = s.madctl1 := rfl
@[simp] theorem State.withAgenda_madctl2 (a : List Event) : (s.withAgenda a).madctl2 = s.madctl2 := rfl
@[simp] theorem State.withAgenda_madctl3 (a : List Event) : (s.withAgenda a).madctl3 = s.madctl3 := rfl
@[simp] theorem State.withAgenda_winXs (a : List Event) : (s.withAgenda a).winXs = s.winXs := rfl
@[simp] theorem State.withAgenda_winYs (a : List Event) : (s.withAgenda a).winYs = s.winYs := rfl
@[simp] theorem State.withAgenda_winXe (a : List Event) : (s.withAgenda a).winXe = s.winXe := rfl
@[simp] theorem State.withAgenda_winYe (a : List Event) : (s.withAgenda a).winYe = s.winYe := rfl
@[simp] theorem State.withAgenda_args (a : List Event) : (s.withAgenda a).args = s.args := rfl
@[simp] theorem State.withAgenda_phase (a : List Event) : (s.withAgenda a).phase = s.phase := rfl
@[simp] theorem State.withAgenda_latch (a : List Event) : (s.withAgenda a).latch = s.latch := rfl
@[simp] theorem State.withAgenda_q (a : List Event) : (s.withAgenda a).q = s.q := rfl
@[simp] theorem State.withAgenda_bulk (a : List Event) : (s.withAgenda a).bulk = s.bulk := rfl
@[simp] theorem State.withAgenda_mem (a : List Event) : (s.withAgenda a).mem = s.mem := rfl
@[simp] theorem State.withAgenda_rom (a : List Event) : (s.withAgenda a).rom = s.rom := rfl
@[simp] theorem State.withAgenda_trace (a : List Event) : (s.withAgenda a).trace = s.trace := rfl
@[simp] theorem State.withAgenda_stalled (a : List Event) : (s.withAgenda a).stalled = s.stalled := rfl
@[simp] theorem State.withAgenda_seenMem (a : List Event) : (s.withAgenda a).seenMem = s.seenMem := rfl
@[simp] theorem State.withAgenda_seenGrant (a : List Event) : (s.withAgenda a).seenGrant = s.seenGrant := rfl
@[simp] theorem State.withAgenda_performed (a : List Event) : (s.withAgenda a).performed = s.performed := rfl
@[simp] theorem State.withAgenda_grants (a : List Event) : (s.withAgenda a).grants = s.grants := rfl
@[simp] theorem State.withAgenda_draws (a : List Event) : (s.withAgenda a).draws = s.draws := rfl
@[simp] theorem State.withAgenda_agenda (a : List Event) : (s.withAgenda a).agenda = a := rfl
@[simp] theorem State.withAgenda_readData (a : List Event) : (s.withAgenda a).readData = s.readData := rfl
@[simp] theorem State.withAgenda_racing (a : List Event) : (s.withAgenda a).racing = s.racing := rfl
@[simp] theorem State.withAgenda_madctlReset (a : List Event) : (s.withAgenda a).madctlReset = s.madctlReset := rfl

/-! ## `State.writeStatus` -/

@[simp] theorem State.writeStatus_cmd (v : Word) : (s.writeStatus v).cmd = s.cmd := rfl
@[simp] theorem State.writeStatus_winv (v : Word) : (s.writeStatus v).winv = s.winv := rfl
@[simp] theorem State.writeStatus_fallback (v : Word) : (s.writeStatus v).fallback = s.fallback := rfl
@[simp] theorem State.writeStatus_overrun (v : Word) : (s.writeStatus v).overrun = (s.overrun && !v.getLsbD 3) := rfl
@[simp] theorem State.writeStatus_err (v : Word) : (s.writeStatus v).err = s.err := rfl
@[simp] theorem State.writeStatus_bulkEn (v : Word) : (s.writeStatus v).bulkEn = s.bulkEn := rfl
@[simp] theorem State.writeStatus_orient (v : Word) : (s.writeStatus v).orient = s.orient := rfl
@[simp] theorem State.writeStatus_panelW (v : Word) : (s.writeStatus v).panelW = s.panelW := rfl
@[simp] theorem State.writeStatus_panelH (v : Word) : (s.writeStatus v).panelH = s.panelH := rfl
@[simp] theorem State.writeStatus_controllerId (v : Word) : (s.writeStatus v).controllerId = s.controllerId := rfl
@[simp] theorem State.writeStatus_opcCaset (v : Word) : (s.writeStatus v).opcCaset = s.opcCaset := rfl
@[simp] theorem State.writeStatus_opcRaset (v : Word) : (s.writeStatus v).opcRaset = s.opcRaset := rfl
@[simp] theorem State.writeStatus_opcRamwr (v : Word) : (s.writeStatus v).opcRamwr = s.opcRamwr := rfl
@[simp] theorem State.writeStatus_opcMadctl (v : Word) : (s.writeStatus v).opcMadctl = s.opcMadctl := rfl
@[simp] theorem State.writeStatus_madctl0 (v : Word) : (s.writeStatus v).madctl0 = s.madctl0 := rfl
@[simp] theorem State.writeStatus_madctl1 (v : Word) : (s.writeStatus v).madctl1 = s.madctl1 := rfl
@[simp] theorem State.writeStatus_madctl2 (v : Word) : (s.writeStatus v).madctl2 = s.madctl2 := rfl
@[simp] theorem State.writeStatus_madctl3 (v : Word) : (s.writeStatus v).madctl3 = s.madctl3 := rfl
@[simp] theorem State.writeStatus_winXs (v : Word) : (s.writeStatus v).winXs = s.winXs := rfl
@[simp] theorem State.writeStatus_winYs (v : Word) : (s.writeStatus v).winYs = s.winYs := rfl
@[simp] theorem State.writeStatus_winXe (v : Word) : (s.writeStatus v).winXe = s.winXe := rfl
@[simp] theorem State.writeStatus_winYe (v : Word) : (s.writeStatus v).winYe = s.winYe := rfl
@[simp] theorem State.writeStatus_args (v : Word) : (s.writeStatus v).args = s.args := rfl
@[simp] theorem State.writeStatus_phase (v : Word) : (s.writeStatus v).phase = s.phase := rfl
@[simp] theorem State.writeStatus_latch (v : Word) : (s.writeStatus v).latch = s.latch := rfl
@[simp] theorem State.writeStatus_q (v : Word) : (s.writeStatus v).q = s.q := rfl
@[simp] theorem State.writeStatus_bulk (v : Word) : (s.writeStatus v).bulk = s.bulk := rfl
@[simp] theorem State.writeStatus_mem (v : Word) : (s.writeStatus v).mem = s.mem := rfl
@[simp] theorem State.writeStatus_rom (v : Word) : (s.writeStatus v).rom = s.rom := rfl
@[simp] theorem State.writeStatus_trace (v : Word) : (s.writeStatus v).trace = s.trace := rfl
@[simp] theorem State.writeStatus_stalled (v : Word) : (s.writeStatus v).stalled = s.stalled := rfl
@[simp] theorem State.writeStatus_seenMem (v : Word) : (s.writeStatus v).seenMem = s.seenMem := rfl
@[simp] theorem State.writeStatus_seenGrant (v : Word) : (s.writeStatus v).seenGrant = s.seenGrant := rfl
@[simp] theorem State.writeStatus_performed (v : Word) : (s.writeStatus v).performed = s.performed := rfl
@[simp] theorem State.writeStatus_grants (v : Word) : (s.writeStatus v).grants = s.grants := rfl
@[simp] theorem State.writeStatus_draws (v : Word) : (s.writeStatus v).draws = s.draws := rfl
@[simp] theorem State.writeStatus_agenda (v : Word) : (s.writeStatus v).agenda = s.agenda := rfl
@[simp] theorem State.writeStatus_readData (v : Word) : (s.writeStatus v).readData = s.readData := rfl
@[simp] theorem State.writeStatus_racing (v : Word) : (s.writeStatus v).racing = s.racing := rfl
@[simp] theorem State.writeStatus_madctlReset (v : Word) : (s.writeStatus v).madctlReset = s.madctlReset := rfl

/-! ## `State.dropWrite` -/

@[simp] theorem State.dropWrite_cmd : s.dropWrite.cmd = s.cmd := rfl
@[simp] theorem State.dropWrite_winv : s.dropWrite.winv = s.winv := rfl
@[simp] theorem State.dropWrite_fallback : s.dropWrite.fallback = s.fallback := rfl
@[simp] theorem State.dropWrite_overrun : s.dropWrite.overrun = true := rfl
@[simp] theorem State.dropWrite_err : s.dropWrite.err = s.err := rfl
@[simp] theorem State.dropWrite_bulkEn : s.dropWrite.bulkEn = s.bulkEn := rfl
@[simp] theorem State.dropWrite_orient : s.dropWrite.orient = s.orient := rfl
@[simp] theorem State.dropWrite_panelW : s.dropWrite.panelW = s.panelW := rfl
@[simp] theorem State.dropWrite_panelH : s.dropWrite.panelH = s.panelH := rfl
@[simp] theorem State.dropWrite_controllerId : s.dropWrite.controllerId = s.controllerId := rfl
@[simp] theorem State.dropWrite_opcCaset : s.dropWrite.opcCaset = s.opcCaset := rfl
@[simp] theorem State.dropWrite_opcRaset : s.dropWrite.opcRaset = s.opcRaset := rfl
@[simp] theorem State.dropWrite_opcRamwr : s.dropWrite.opcRamwr = s.opcRamwr := rfl
@[simp] theorem State.dropWrite_opcMadctl : s.dropWrite.opcMadctl = s.opcMadctl := rfl
@[simp] theorem State.dropWrite_madctl0 : s.dropWrite.madctl0 = s.madctl0 := rfl
@[simp] theorem State.dropWrite_madctl1 : s.dropWrite.madctl1 = s.madctl1 := rfl
@[simp] theorem State.dropWrite_madctl2 : s.dropWrite.madctl2 = s.madctl2 := rfl
@[simp] theorem State.dropWrite_madctl3 : s.dropWrite.madctl3 = s.madctl3 := rfl
@[simp] theorem State.dropWrite_winXs : s.dropWrite.winXs = s.winXs := rfl
@[simp] theorem State.dropWrite_winYs : s.dropWrite.winYs = s.winYs := rfl
@[simp] theorem State.dropWrite_winXe : s.dropWrite.winXe = s.winXe := rfl
@[simp] theorem State.dropWrite_winYe : s.dropWrite.winYe = s.winYe := rfl
@[simp] theorem State.dropWrite_args : s.dropWrite.args = s.args := rfl
@[simp] theorem State.dropWrite_phase : s.dropWrite.phase = s.phase := rfl
@[simp] theorem State.dropWrite_latch : s.dropWrite.latch = s.latch := rfl
@[simp] theorem State.dropWrite_q : s.dropWrite.q = s.q := rfl
@[simp] theorem State.dropWrite_bulk : s.dropWrite.bulk = s.bulk := rfl
@[simp] theorem State.dropWrite_mem : s.dropWrite.mem = s.mem := rfl
@[simp] theorem State.dropWrite_rom : s.dropWrite.rom = s.rom := rfl
@[simp] theorem State.dropWrite_trace : s.dropWrite.trace = s.trace := rfl
@[simp] theorem State.dropWrite_stalled : s.dropWrite.stalled = s.stalled := rfl
@[simp] theorem State.dropWrite_seenMem : s.dropWrite.seenMem = s.seenMem := rfl
@[simp] theorem State.dropWrite_seenGrant : s.dropWrite.seenGrant = s.seenGrant := rfl
@[simp] theorem State.dropWrite_performed : s.dropWrite.performed = s.performed := rfl
@[simp] theorem State.dropWrite_grants : s.dropWrite.grants = s.grants := rfl
@[simp] theorem State.dropWrite_draws : s.dropWrite.draws = s.draws := rfl
@[simp] theorem State.dropWrite_agenda : s.dropWrite.agenda = s.agenda := rfl
@[simp] theorem State.dropWrite_readData : s.dropWrite.readData = s.readData := rfl
@[simp] theorem State.dropWrite_racing : s.dropWrite.racing = s.racing := rfl
@[simp] theorem State.dropWrite_madctlReset : s.dropWrite.madctlReset = s.madctlReset := rfl

/-! ## `State.reject` -/

@[simp] theorem State.reject_cmd (c : ErrCode) : (s.reject c).cmd = s.cmd := rfl
@[simp] theorem State.reject_winv (c : ErrCode) : (s.reject c).winv = s.winv := rfl
@[simp] theorem State.reject_fallback (c : ErrCode) : (s.reject c).fallback = s.fallback := rfl
@[simp] theorem State.reject_overrun (c : ErrCode) : (s.reject c).overrun = s.overrun := rfl
@[simp] theorem State.reject_err (c : ErrCode) : (s.reject c).err = c := rfl
@[simp] theorem State.reject_bulkEn (c : ErrCode) : (s.reject c).bulkEn = s.bulkEn := rfl
@[simp] theorem State.reject_orient (c : ErrCode) : (s.reject c).orient = s.orient := rfl
@[simp] theorem State.reject_panelW (c : ErrCode) : (s.reject c).panelW = s.panelW := rfl
@[simp] theorem State.reject_panelH (c : ErrCode) : (s.reject c).panelH = s.panelH := rfl
@[simp] theorem State.reject_controllerId (c : ErrCode) : (s.reject c).controllerId = s.controllerId := rfl
@[simp] theorem State.reject_opcCaset (c : ErrCode) : (s.reject c).opcCaset = s.opcCaset := rfl
@[simp] theorem State.reject_opcRaset (c : ErrCode) : (s.reject c).opcRaset = s.opcRaset := rfl
@[simp] theorem State.reject_opcRamwr (c : ErrCode) : (s.reject c).opcRamwr = s.opcRamwr := rfl
@[simp] theorem State.reject_opcMadctl (c : ErrCode) : (s.reject c).opcMadctl = s.opcMadctl := rfl
@[simp] theorem State.reject_madctl0 (c : ErrCode) : (s.reject c).madctl0 = s.madctl0 := rfl
@[simp] theorem State.reject_madctl1 (c : ErrCode) : (s.reject c).madctl1 = s.madctl1 := rfl
@[simp] theorem State.reject_madctl2 (c : ErrCode) : (s.reject c).madctl2 = s.madctl2 := rfl
@[simp] theorem State.reject_madctl3 (c : ErrCode) : (s.reject c).madctl3 = s.madctl3 := rfl
@[simp] theorem State.reject_winXs (c : ErrCode) : (s.reject c).winXs = s.winXs := rfl
@[simp] theorem State.reject_winYs (c : ErrCode) : (s.reject c).winYs = s.winYs := rfl
@[simp] theorem State.reject_winXe (c : ErrCode) : (s.reject c).winXe = s.winXe := rfl
@[simp] theorem State.reject_winYe (c : ErrCode) : (s.reject c).winYe = s.winYe := rfl
@[simp] theorem State.reject_args (c : ErrCode) : (s.reject c).args = s.args := rfl
@[simp] theorem State.reject_phase (c : ErrCode) : (s.reject c).phase = s.phase := rfl
@[simp] theorem State.reject_latch (c : ErrCode) : (s.reject c).latch = s.latch := rfl
@[simp] theorem State.reject_q (c : ErrCode) : (s.reject c).q = s.q := rfl
@[simp] theorem State.reject_bulk (c : ErrCode) : (s.reject c).bulk = s.bulk := rfl
@[simp] theorem State.reject_mem (c : ErrCode) : (s.reject c).mem = s.mem := rfl
@[simp] theorem State.reject_rom (c : ErrCode) : (s.reject c).rom = s.rom := rfl
@[simp] theorem State.reject_trace (c : ErrCode) : (s.reject c).trace = s.trace := rfl
@[simp] theorem State.reject_stalled (c : ErrCode) : (s.reject c).stalled = s.stalled := rfl
@[simp] theorem State.reject_seenMem (c : ErrCode) : (s.reject c).seenMem = s.seenMem := rfl
@[simp] theorem State.reject_seenGrant (c : ErrCode) : (s.reject c).seenGrant = s.seenGrant := rfl
@[simp] theorem State.reject_performed (c : ErrCode) : (s.reject c).performed = s.performed := rfl
@[simp] theorem State.reject_grants (c : ErrCode) : (s.reject c).grants = s.grants := rfl
@[simp] theorem State.reject_draws (c : ErrCode) : (s.reject c).draws = s.draws := rfl
@[simp] theorem State.reject_agenda (c : ErrCode) : (s.reject c).agenda = s.agenda := rfl
@[simp] theorem State.reject_readData (c : ErrCode) : (s.reject c).readData = s.readData := rfl
@[simp] theorem State.reject_racing (c : ErrCode) : (s.reject c).racing = s.racing := rfl
@[simp] theorem State.reject_madctlReset (c : ErrCode) : (s.reject c).madctlReset = s.madctlReset := rfl

/-! ## `State.beginCommand` -/

@[simp] theorem State.beginCommand_cmd (w : Word) : (s.beginCommand w).cmd = w := rfl
@[simp] theorem State.beginCommand_winv (w : Word) : (s.beginCommand w).winv = s.winv := rfl
@[simp] theorem State.beginCommand_fallback (w : Word) : (s.beginCommand w).fallback = false := rfl
@[simp] theorem State.beginCommand_overrun (w : Word) : (s.beginCommand w).overrun = s.overrun := rfl
@[simp] theorem State.beginCommand_err (w : Word) : (s.beginCommand w).err = .none := rfl
@[simp] theorem State.beginCommand_bulkEn (w : Word) : (s.beginCommand w).bulkEn = s.bulkEn := rfl
@[simp] theorem State.beginCommand_orient (w : Word) : (s.beginCommand w).orient = s.orient := rfl
@[simp] theorem State.beginCommand_panelW (w : Word) : (s.beginCommand w).panelW = s.panelW := rfl
@[simp] theorem State.beginCommand_panelH (w : Word) : (s.beginCommand w).panelH = s.panelH := rfl
@[simp] theorem State.beginCommand_controllerId (w : Word) : (s.beginCommand w).controllerId = s.controllerId := rfl
@[simp] theorem State.beginCommand_opcCaset (w : Word) : (s.beginCommand w).opcCaset = s.opcCaset := rfl
@[simp] theorem State.beginCommand_opcRaset (w : Word) : (s.beginCommand w).opcRaset = s.opcRaset := rfl
@[simp] theorem State.beginCommand_opcRamwr (w : Word) : (s.beginCommand w).opcRamwr = s.opcRamwr := rfl
@[simp] theorem State.beginCommand_opcMadctl (w : Word) : (s.beginCommand w).opcMadctl = s.opcMadctl := rfl
@[simp] theorem State.beginCommand_madctl0 (w : Word) : (s.beginCommand w).madctl0 = s.madctl0 := rfl
@[simp] theorem State.beginCommand_madctl1 (w : Word) : (s.beginCommand w).madctl1 = s.madctl1 := rfl
@[simp] theorem State.beginCommand_madctl2 (w : Word) : (s.beginCommand w).madctl2 = s.madctl2 := rfl
@[simp] theorem State.beginCommand_madctl3 (w : Word) : (s.beginCommand w).madctl3 = s.madctl3 := rfl
@[simp] theorem State.beginCommand_winXs (w : Word) : (s.beginCommand w).winXs = s.winXs := rfl
@[simp] theorem State.beginCommand_winYs (w : Word) : (s.beginCommand w).winYs = s.winYs := rfl
@[simp] theorem State.beginCommand_winXe (w : Word) : (s.beginCommand w).winXe = s.winXe := rfl
@[simp] theorem State.beginCommand_winYe (w : Word) : (s.beginCommand w).winYe = s.winYe := rfl
@[simp] theorem State.beginCommand_args (w : Word) : (s.beginCommand w).args = s.args := rfl
@[simp] theorem State.beginCommand_phase (w : Word) : (s.beginCommand w).phase = s.phase := rfl
@[simp] theorem State.beginCommand_latch (w : Word) : (s.beginCommand w).latch = s.latchFor w := rfl
@[simp] theorem State.beginCommand_q (w : Word) : (s.beginCommand w).q = s.q := rfl
@[simp] theorem State.beginCommand_bulk (w : Word) : (s.beginCommand w).bulk = s.bulk := rfl
@[simp] theorem State.beginCommand_mem (w : Word) : (s.beginCommand w).mem = s.mem := rfl
@[simp] theorem State.beginCommand_rom (w : Word) : (s.beginCommand w).rom = s.rom := rfl
@[simp] theorem State.beginCommand_trace (w : Word) : (s.beginCommand w).trace = s.trace := rfl
@[simp] theorem State.beginCommand_stalled (w : Word) : (s.beginCommand w).stalled = s.stalled := rfl
@[simp] theorem State.beginCommand_seenMem (w : Word) : (s.beginCommand w).seenMem = s.mem := rfl
@[simp] theorem State.beginCommand_seenGrant (w : Word) : (s.beginCommand w).seenGrant = s.bulkGrant := rfl
@[simp] theorem State.beginCommand_performed (w : Word) : (s.beginCommand w).performed = 0 := rfl
@[simp] theorem State.beginCommand_grants (w : Word) : (s.beginCommand w).grants = s.grants.tail := rfl
@[simp] theorem State.beginCommand_draws (w : Word) : (s.beginCommand w).draws = s.draws + 1 := rfl
@[simp] theorem State.beginCommand_agenda (w : Word) : (s.beginCommand w).agenda = s.agenda := rfl
@[simp] theorem State.beginCommand_readData (w : Word) : (s.beginCommand w).readData = s.readData := rfl
@[simp] theorem State.beginCommand_racing (w : Word) : (s.beginCommand w).racing = [] := rfl
@[simp] theorem State.beginCommand_madctlReset (w : Word) : (s.beginCommand w).madctlReset = s.madctlReset := rfl

/-! ## `State.showWindow` -/

@[simp] theorem State.showWindow_cmd (a b c d : Byte) : (s.showWindow a b c d).cmd = s.cmd := rfl
@[simp] theorem State.showWindow_winv (a b c d : Byte) : (s.showWindow a b c d).winv = true := rfl
@[simp] theorem State.showWindow_fallback (a b c d : Byte) : (s.showWindow a b c d).fallback = s.fallback := rfl
@[simp] theorem State.showWindow_overrun (a b c d : Byte) : (s.showWindow a b c d).overrun = s.overrun := rfl
@[simp] theorem State.showWindow_err (a b c d : Byte) : (s.showWindow a b c d).err = s.err := rfl
@[simp] theorem State.showWindow_bulkEn (a b c d : Byte) : (s.showWindow a b c d).bulkEn = s.bulkEn := rfl
@[simp] theorem State.showWindow_orient (a b c d : Byte) : (s.showWindow a b c d).orient = s.orient := rfl
@[simp] theorem State.showWindow_panelW (a b c d : Byte) : (s.showWindow a b c d).panelW = s.panelW := rfl
@[simp] theorem State.showWindow_panelH (a b c d : Byte) : (s.showWindow a b c d).panelH = s.panelH := rfl
@[simp] theorem State.showWindow_controllerId (a b c d : Byte) : (s.showWindow a b c d).controllerId = s.controllerId := rfl
@[simp] theorem State.showWindow_opcCaset (a b c d : Byte) : (s.showWindow a b c d).opcCaset = s.opcCaset := rfl
@[simp] theorem State.showWindow_opcRaset (a b c d : Byte) : (s.showWindow a b c d).opcRaset = s.opcRaset := rfl
@[simp] theorem State.showWindow_opcRamwr (a b c d : Byte) : (s.showWindow a b c d).opcRamwr = s.opcRamwr := rfl
@[simp] theorem State.showWindow_opcMadctl (a b c d : Byte) : (s.showWindow a b c d).opcMadctl = s.opcMadctl := rfl
@[simp] theorem State.showWindow_madctl0 (a b c d : Byte) : (s.showWindow a b c d).madctl0 = s.madctl0 := rfl
@[simp] theorem State.showWindow_madctl1 (a b c d : Byte) : (s.showWindow a b c d).madctl1 = s.madctl1 := rfl
@[simp] theorem State.showWindow_madctl2 (a b c d : Byte) : (s.showWindow a b c d).madctl2 = s.madctl2 := rfl
@[simp] theorem State.showWindow_madctl3 (a b c d : Byte) : (s.showWindow a b c d).madctl3 = s.madctl3 := rfl
@[simp] theorem State.showWindow_winXs (a b c d : Byte) : (s.showWindow a b c d).winXs = a := rfl
@[simp] theorem State.showWindow_winYs (a b c d : Byte) : (s.showWindow a b c d).winYs = b := rfl
@[simp] theorem State.showWindow_winXe (a b c d : Byte) : (s.showWindow a b c d).winXe = c := rfl
@[simp] theorem State.showWindow_winYe (a b c d : Byte) : (s.showWindow a b c d).winYe = d := rfl
@[simp] theorem State.showWindow_args (a b c d : Byte) : (s.showWindow a b c d).args = s.args := rfl
@[simp] theorem State.showWindow_phase (a b c d : Byte) : (s.showWindow a b c d).phase = s.phase := rfl
@[simp] theorem State.showWindow_latch (a b c d : Byte) : (s.showWindow a b c d).latch = s.latch := rfl
@[simp] theorem State.showWindow_q (a b c d : Byte) : (s.showWindow a b c d).q = s.q := rfl
@[simp] theorem State.showWindow_bulk (a b c d : Byte) : (s.showWindow a b c d).bulk = s.bulk := rfl
@[simp] theorem State.showWindow_mem (a b c d : Byte) : (s.showWindow a b c d).mem = s.mem := rfl
@[simp] theorem State.showWindow_rom (a b c d : Byte) : (s.showWindow a b c d).rom = s.rom := rfl
@[simp] theorem State.showWindow_trace (a b c d : Byte) : (s.showWindow a b c d).trace = s.trace := rfl
@[simp] theorem State.showWindow_stalled (a b c d : Byte) : (s.showWindow a b c d).stalled = s.stalled := rfl
@[simp] theorem State.showWindow_seenMem (a b c d : Byte) : (s.showWindow a b c d).seenMem = s.seenMem := rfl
@[simp] theorem State.showWindow_seenGrant (a b c d : Byte) : (s.showWindow a b c d).seenGrant = s.seenGrant := rfl
@[simp] theorem State.showWindow_performed (a b c d : Byte) : (s.showWindow a b c d).performed = s.performed := rfl
@[simp] theorem State.showWindow_grants (a b c d : Byte) : (s.showWindow a b c d).grants = s.grants := rfl
@[simp] theorem State.showWindow_draws (a b c d : Byte) : (s.showWindow a b c d).draws = s.draws := rfl
@[simp] theorem State.showWindow_agenda (a b c d : Byte) : (s.showWindow a b c d).agenda = s.agenda := rfl
@[simp] theorem State.showWindow_readData (a b c d : Byte) : (s.showWindow a b c d).readData = s.readData := rfl
@[simp] theorem State.showWindow_racing (a b c d : Byte) : (s.showWindow a b c d).racing = s.racing := rfl
@[simp] theorem State.showWindow_madctlReset (a b c d : Byte) : (s.showWindow a b c d).madctlReset = s.madctlReset := rfl

/-! ## `State.invalidateWindow` -/

@[simp] theorem State.invalidateWindow_cmd : s.invalidateWindow.cmd = s.cmd := rfl
@[simp] theorem State.invalidateWindow_winv : s.invalidateWindow.winv = false := rfl
@[simp] theorem State.invalidateWindow_fallback : s.invalidateWindow.fallback = s.fallback := rfl
@[simp] theorem State.invalidateWindow_overrun : s.invalidateWindow.overrun = s.overrun := rfl
@[simp] theorem State.invalidateWindow_err : s.invalidateWindow.err = s.err := rfl
@[simp] theorem State.invalidateWindow_bulkEn : s.invalidateWindow.bulkEn = s.bulkEn := rfl
@[simp] theorem State.invalidateWindow_orient : s.invalidateWindow.orient = s.orient := rfl
@[simp] theorem State.invalidateWindow_panelW : s.invalidateWindow.panelW = s.panelW := rfl
@[simp] theorem State.invalidateWindow_panelH : s.invalidateWindow.panelH = s.panelH := rfl
@[simp] theorem State.invalidateWindow_controllerId : s.invalidateWindow.controllerId = s.controllerId := rfl
@[simp] theorem State.invalidateWindow_opcCaset : s.invalidateWindow.opcCaset = s.opcCaset := rfl
@[simp] theorem State.invalidateWindow_opcRaset : s.invalidateWindow.opcRaset = s.opcRaset := rfl
@[simp] theorem State.invalidateWindow_opcRamwr : s.invalidateWindow.opcRamwr = s.opcRamwr := rfl
@[simp] theorem State.invalidateWindow_opcMadctl : s.invalidateWindow.opcMadctl = s.opcMadctl := rfl
@[simp] theorem State.invalidateWindow_madctl0 : s.invalidateWindow.madctl0 = s.madctl0 := rfl
@[simp] theorem State.invalidateWindow_madctl1 : s.invalidateWindow.madctl1 = s.madctl1 := rfl
@[simp] theorem State.invalidateWindow_madctl2 : s.invalidateWindow.madctl2 = s.madctl2 := rfl
@[simp] theorem State.invalidateWindow_madctl3 : s.invalidateWindow.madctl3 = s.madctl3 := rfl
@[simp] theorem State.invalidateWindow_winXs : s.invalidateWindow.winXs = s.winXs := rfl
@[simp] theorem State.invalidateWindow_winYs : s.invalidateWindow.winYs = s.winYs := rfl
@[simp] theorem State.invalidateWindow_winXe : s.invalidateWindow.winXe = s.winXe := rfl
@[simp] theorem State.invalidateWindow_winYe : s.invalidateWindow.winYe = s.winYe := rfl
@[simp] theorem State.invalidateWindow_args : s.invalidateWindow.args = s.args := rfl
@[simp] theorem State.invalidateWindow_phase : s.invalidateWindow.phase = s.phase := rfl
@[simp] theorem State.invalidateWindow_latch : s.invalidateWindow.latch = s.latch := rfl
@[simp] theorem State.invalidateWindow_q : s.invalidateWindow.q = s.q := rfl
@[simp] theorem State.invalidateWindow_bulk : s.invalidateWindow.bulk = s.bulk := rfl
@[simp] theorem State.invalidateWindow_mem : s.invalidateWindow.mem = s.mem := rfl
@[simp] theorem State.invalidateWindow_rom : s.invalidateWindow.rom = s.rom := rfl
@[simp] theorem State.invalidateWindow_trace : s.invalidateWindow.trace = s.trace := rfl
@[simp] theorem State.invalidateWindow_stalled : s.invalidateWindow.stalled = s.stalled := rfl
@[simp] theorem State.invalidateWindow_seenMem : s.invalidateWindow.seenMem = s.seenMem := rfl
@[simp] theorem State.invalidateWindow_seenGrant : s.invalidateWindow.seenGrant = s.seenGrant := rfl
@[simp] theorem State.invalidateWindow_performed : s.invalidateWindow.performed = s.performed := rfl
@[simp] theorem State.invalidateWindow_grants : s.invalidateWindow.grants = s.grants := rfl
@[simp] theorem State.invalidateWindow_draws : s.invalidateWindow.draws = s.draws := rfl
@[simp] theorem State.invalidateWindow_agenda : s.invalidateWindow.agenda = s.agenda := rfl
@[simp] theorem State.invalidateWindow_readData : s.invalidateWindow.readData = s.readData := rfl
@[simp] theorem State.invalidateWindow_racing : s.invalidateWindow.racing = s.racing := rfl
@[simp] theorem State.invalidateWindow_madctlReset : s.invalidateWindow.madctlReset = s.madctlReset := rfl

/-! ## `State.turnTo` -/

@[simp] theorem State.turnTo_cmd (d : BitVec 2) : (s.turnTo d).cmd = s.cmd := rfl
@[simp] theorem State.turnTo_winv (d : BitVec 2) : (s.turnTo d).winv = s.winv := rfl
@[simp] theorem State.turnTo_fallback (d : BitVec 2) : (s.turnTo d).fallback = s.fallback := rfl
@[simp] theorem State.turnTo_overrun (d : BitVec 2) : (s.turnTo d).overrun = s.overrun := rfl
@[simp] theorem State.turnTo_err (d : BitVec 2) : (s.turnTo d).err = s.err := rfl
@[simp] theorem State.turnTo_bulkEn (d : BitVec 2) : (s.turnTo d).bulkEn = s.bulkEn := rfl
@[simp] theorem State.turnTo_orient (d : BitVec 2) : (s.turnTo d).orient = d := rfl
@[simp] theorem State.turnTo_panelW (d : BitVec 2) : (s.turnTo d).panelW = s.panelW := rfl
@[simp] theorem State.turnTo_panelH (d : BitVec 2) : (s.turnTo d).panelH = s.panelH := rfl
@[simp] theorem State.turnTo_controllerId (d : BitVec 2) : (s.turnTo d).controllerId = s.controllerId := rfl
@[simp] theorem State.turnTo_opcCaset (d : BitVec 2) : (s.turnTo d).opcCaset = s.opcCaset := rfl
@[simp] theorem State.turnTo_opcRaset (d : BitVec 2) : (s.turnTo d).opcRaset = s.opcRaset := rfl
@[simp] theorem State.turnTo_opcRamwr (d : BitVec 2) : (s.turnTo d).opcRamwr = s.opcRamwr := rfl
@[simp] theorem State.turnTo_opcMadctl (d : BitVec 2) : (s.turnTo d).opcMadctl = s.opcMadctl := rfl
@[simp] theorem State.turnTo_madctl0 (d : BitVec 2) : (s.turnTo d).madctl0 = s.madctl0 := rfl
@[simp] theorem State.turnTo_madctl1 (d : BitVec 2) : (s.turnTo d).madctl1 = s.madctl1 := rfl
@[simp] theorem State.turnTo_madctl2 (d : BitVec 2) : (s.turnTo d).madctl2 = s.madctl2 := rfl
@[simp] theorem State.turnTo_madctl3 (d : BitVec 2) : (s.turnTo d).madctl3 = s.madctl3 := rfl
@[simp] theorem State.turnTo_winXs (d : BitVec 2) : (s.turnTo d).winXs = s.winXs := rfl
@[simp] theorem State.turnTo_winYs (d : BitVec 2) : (s.turnTo d).winYs = s.winYs := rfl
@[simp] theorem State.turnTo_winXe (d : BitVec 2) : (s.turnTo d).winXe = s.winXe := rfl
@[simp] theorem State.turnTo_winYe (d : BitVec 2) : (s.turnTo d).winYe = s.winYe := rfl
@[simp] theorem State.turnTo_args (d : BitVec 2) : (s.turnTo d).args = s.args := rfl
@[simp] theorem State.turnTo_phase (d : BitVec 2) : (s.turnTo d).phase = s.phase := rfl
@[simp] theorem State.turnTo_latch (d : BitVec 2) : (s.turnTo d).latch = s.latch := rfl
@[simp] theorem State.turnTo_q (d : BitVec 2) : (s.turnTo d).q = s.q := rfl
@[simp] theorem State.turnTo_bulk (d : BitVec 2) : (s.turnTo d).bulk = s.bulk := rfl
@[simp] theorem State.turnTo_mem (d : BitVec 2) : (s.turnTo d).mem = s.mem := rfl
@[simp] theorem State.turnTo_rom (d : BitVec 2) : (s.turnTo d).rom = s.rom := rfl
@[simp] theorem State.turnTo_trace (d : BitVec 2) : (s.turnTo d).trace = s.trace := rfl
@[simp] theorem State.turnTo_stalled (d : BitVec 2) : (s.turnTo d).stalled = s.stalled := rfl
@[simp] theorem State.turnTo_seenMem (d : BitVec 2) : (s.turnTo d).seenMem = s.seenMem := rfl
@[simp] theorem State.turnTo_seenGrant (d : BitVec 2) : (s.turnTo d).seenGrant = s.seenGrant := rfl
@[simp] theorem State.turnTo_performed (d : BitVec 2) : (s.turnTo d).performed = s.performed := rfl
@[simp] theorem State.turnTo_grants (d : BitVec 2) : (s.turnTo d).grants = s.grants := rfl
@[simp] theorem State.turnTo_draws (d : BitVec 2) : (s.turnTo d).draws = s.draws := rfl
@[simp] theorem State.turnTo_agenda (d : BitVec 2) : (s.turnTo d).agenda = s.agenda := rfl
@[simp] theorem State.turnTo_readData (d : BitVec 2) : (s.turnTo d).readData = s.readData := rfl
@[simp] theorem State.turnTo_racing (d : BitVec 2) : (s.turnTo d).racing = s.racing := rfl
@[simp] theorem State.turnTo_madctlReset (d : BitVec 2) : (s.turnTo d).madctlReset = s.madctlReset := rfl

/-! ## `State.carry` -/

@[simp] theorem State.carry_cmd (t : Tx) : (s.carry t).cmd = s.cmd := rfl
@[simp] theorem State.carry_winv (t : Tx) : (s.carry t).winv = s.winv := rfl
@[simp] theorem State.carry_fallback (t : Tx) : (s.carry t).fallback = s.fallback := rfl
@[simp] theorem State.carry_overrun (t : Tx) : (s.carry t).overrun = s.overrun := rfl
@[simp] theorem State.carry_err (t : Tx) : (s.carry t).err = s.err := rfl
@[simp] theorem State.carry_bulkEn (t : Tx) : (s.carry t).bulkEn = s.bulkEn := rfl
@[simp] theorem State.carry_orient (t : Tx) : (s.carry t).orient = s.orient := rfl
@[simp] theorem State.carry_panelW (t : Tx) : (s.carry t).panelW = s.panelW := rfl
@[simp] theorem State.carry_panelH (t : Tx) : (s.carry t).panelH = s.panelH := rfl
@[simp] theorem State.carry_controllerId (t : Tx) : (s.carry t).controllerId = s.controllerId := rfl
@[simp] theorem State.carry_opcCaset (t : Tx) : (s.carry t).opcCaset = s.opcCaset := rfl
@[simp] theorem State.carry_opcRaset (t : Tx) : (s.carry t).opcRaset = s.opcRaset := rfl
@[simp] theorem State.carry_opcRamwr (t : Tx) : (s.carry t).opcRamwr = s.opcRamwr := rfl
@[simp] theorem State.carry_opcMadctl (t : Tx) : (s.carry t).opcMadctl = s.opcMadctl := rfl
@[simp] theorem State.carry_madctl0 (t : Tx) : (s.carry t).madctl0 = s.madctl0 := rfl
@[simp] theorem State.carry_madctl1 (t : Tx) : (s.carry t).madctl1 = s.madctl1 := rfl
@[simp] theorem State.carry_madctl2 (t : Tx) : (s.carry t).madctl2 = s.madctl2 := rfl
@[simp] theorem State.carry_madctl3 (t : Tx) : (s.carry t).madctl3 = s.madctl3 := rfl
@[simp] theorem State.carry_winXs (t : Tx) : (s.carry t).winXs = s.winXs := rfl
@[simp] theorem State.carry_winYs (t : Tx) : (s.carry t).winYs = s.winYs := rfl
@[simp] theorem State.carry_winXe (t : Tx) : (s.carry t).winXe = s.winXe := rfl
@[simp] theorem State.carry_winYe (t : Tx) : (s.carry t).winYe = s.winYe := rfl
@[simp] theorem State.carry_args (t : Tx) : (s.carry t).args = s.args := rfl
@[simp] theorem State.carry_phase (t : Tx) : (s.carry t).phase = s.phase := rfl
@[simp] theorem State.carry_latch (t : Tx) : (s.carry t).latch = s.latch := rfl
@[simp] theorem State.carry_q (t : Tx) : (s.carry t).q = s.q := rfl
@[simp] theorem State.carry_bulk (t : Tx) : (s.carry t).bulk = s.bulk := rfl
@[simp] theorem State.carry_mem (t : Tx) : (s.carry t).mem = s.mem := rfl
@[simp] theorem State.carry_rom (t : Tx) : (s.carry t).rom = s.rom := rfl
@[simp] theorem State.carry_trace (t : Tx) : (s.carry t).trace = s.trace ++ [.carried t] := rfl
@[simp] theorem State.carry_stalled (t : Tx) : (s.carry t).stalled = s.stalled := rfl
@[simp] theorem State.carry_seenMem (t : Tx) : (s.carry t).seenMem = s.seenMem := rfl
@[simp] theorem State.carry_seenGrant (t : Tx) : (s.carry t).seenGrant = s.seenGrant := rfl
@[simp] theorem State.carry_performed (t : Tx) : (s.carry t).performed = s.performed := rfl
@[simp] theorem State.carry_grants (t : Tx) : (s.carry t).grants = s.grants := rfl
@[simp] theorem State.carry_draws (t : Tx) : (s.carry t).draws = s.draws := rfl
@[simp] theorem State.carry_agenda (t : Tx) : (s.carry t).agenda = s.agenda := rfl
@[simp] theorem State.carry_readData (t : Tx) : (s.carry t).readData = s.readData := rfl
@[simp] theorem State.carry_racing (t : Tx) : (s.carry t).racing = s.racing := rfl
@[simp] theorem State.carry_madctlReset (t : Tx) : (s.carry t).madctlReset = s.madctlReset := rfl

/-! ## `State.advance` -/

@[simp] theorem State.advance_cmd (rest : List Item) : (s.advance rest).cmd = s.cmd := rfl
@[simp] theorem State.advance_winv (rest : List Item) : (s.advance rest).winv = s.winv := rfl
@[simp] theorem State.advance_fallback (rest : List Item) : (s.advance rest).fallback = s.fallback := rfl
@[simp] theorem State.advance_overrun (rest : List Item) : (s.advance rest).overrun = s.overrun := rfl
@[simp] theorem State.advance_err (rest : List Item) : (s.advance rest).err = s.err := rfl
@[simp] theorem State.advance_bulkEn (rest : List Item) : (s.advance rest).bulkEn = s.bulkEn := rfl
@[simp] theorem State.advance_orient (rest : List Item) : (s.advance rest).orient = s.orient := rfl
@[simp] theorem State.advance_panelW (rest : List Item) : (s.advance rest).panelW = s.panelW := rfl
@[simp] theorem State.advance_panelH (rest : List Item) : (s.advance rest).panelH = s.panelH := rfl
@[simp] theorem State.advance_controllerId (rest : List Item) : (s.advance rest).controllerId = s.controllerId := rfl
@[simp] theorem State.advance_opcCaset (rest : List Item) : (s.advance rest).opcCaset = s.opcCaset := rfl
@[simp] theorem State.advance_opcRaset (rest : List Item) : (s.advance rest).opcRaset = s.opcRaset := rfl
@[simp] theorem State.advance_opcRamwr (rest : List Item) : (s.advance rest).opcRamwr = s.opcRamwr := rfl
@[simp] theorem State.advance_opcMadctl (rest : List Item) : (s.advance rest).opcMadctl = s.opcMadctl := rfl
@[simp] theorem State.advance_madctl0 (rest : List Item) : (s.advance rest).madctl0 = s.madctl0 := rfl
@[simp] theorem State.advance_madctl1 (rest : List Item) : (s.advance rest).madctl1 = s.madctl1 := rfl
@[simp] theorem State.advance_madctl2 (rest : List Item) : (s.advance rest).madctl2 = s.madctl2 := rfl
@[simp] theorem State.advance_madctl3 (rest : List Item) : (s.advance rest).madctl3 = s.madctl3 := rfl
@[simp] theorem State.advance_winXs (rest : List Item) : (s.advance rest).winXs = s.winXs := rfl
@[simp] theorem State.advance_winYs (rest : List Item) : (s.advance rest).winYs = s.winYs := rfl
@[simp] theorem State.advance_winXe (rest : List Item) : (s.advance rest).winXe = s.winXe := rfl
@[simp] theorem State.advance_winYe (rest : List Item) : (s.advance rest).winYe = s.winYe := rfl
@[simp] theorem State.advance_args (rest : List Item) : (s.advance rest).args = s.args := rfl
@[simp] theorem State.advance_phase (rest : List Item) : (s.advance rest).phase = (if rest = [] then .idle else .busy) := rfl
@[simp] theorem State.advance_latch (rest : List Item) : (s.advance rest).latch = s.latch := rfl
@[simp] theorem State.advance_q (rest : List Item) : (s.advance rest).q = rest := rfl
@[simp] theorem State.advance_bulk (rest : List Item) : (s.advance rest).bulk = (if rest = [] then none else s.bulk) := rfl
@[simp] theorem State.advance_mem (rest : List Item) : (s.advance rest).mem = s.mem := rfl
@[simp] theorem State.advance_rom (rest : List Item) : (s.advance rest).rom = s.rom := rfl
@[simp] theorem State.advance_trace (rest : List Item) : (s.advance rest).trace = s.trace := rfl
@[simp] theorem State.advance_stalled (rest : List Item) : (s.advance rest).stalled = s.stalled := rfl
@[simp] theorem State.advance_seenMem (rest : List Item) : (s.advance rest).seenMem = s.seenMem := rfl
@[simp] theorem State.advance_seenGrant (rest : List Item) : (s.advance rest).seenGrant = s.seenGrant := rfl
@[simp] theorem State.advance_performed (rest : List Item) : (s.advance rest).performed = s.performed + 1 := rfl
@[simp] theorem State.advance_grants (rest : List Item) : (s.advance rest).grants = s.grants := rfl
@[simp] theorem State.advance_draws (rest : List Item) : (s.advance rest).draws = s.draws := rfl
@[simp] theorem State.advance_agenda (rest : List Item) : (s.advance rest).agenda = s.agenda := rfl
@[simp] theorem State.advance_readData (rest : List Item) : (s.advance rest).readData = s.readData := rfl
@[simp] theorem State.advance_racing (rest : List Item) : (s.advance rest).racing = s.racing := rfl
@[simp] theorem State.advance_madctlReset (rest : List Item) : (s.advance rest).madctlReset = s.madctlReset := rfl

/-! ## `State.transportFault` -/

@[simp] theorem State.transportFault_cmd (t : Tx) (k : Nat) : (s.transportFault t k).cmd = s.cmd := rfl
@[simp] theorem State.transportFault_winv (t : Tx) (k : Nat) : (s.transportFault t k).winv = false := rfl
@[simp] theorem State.transportFault_fallback (t : Tx) (k : Nat) : (s.transportFault t k).fallback = s.fallback := rfl
@[simp] theorem State.transportFault_overrun (t : Tx) (k : Nat) : (s.transportFault t k).overrun = s.overrun := rfl
@[simp] theorem State.transportFault_err (t : Tx) (k : Nat) : (s.transportFault t k).err = .transportFault := rfl
@[simp] theorem State.transportFault_bulkEn (t : Tx) (k : Nat) : (s.transportFault t k).bulkEn = s.bulkEn := rfl
@[simp] theorem State.transportFault_orient (t : Tx) (k : Nat) : (s.transportFault t k).orient = s.orient := rfl
@[simp] theorem State.transportFault_panelW (t : Tx) (k : Nat) : (s.transportFault t k).panelW = s.panelW := rfl
@[simp] theorem State.transportFault_panelH (t : Tx) (k : Nat) : (s.transportFault t k).panelH = s.panelH := rfl
@[simp] theorem State.transportFault_controllerId (t : Tx) (k : Nat) : (s.transportFault t k).controllerId = s.controllerId := rfl
@[simp] theorem State.transportFault_opcCaset (t : Tx) (k : Nat) : (s.transportFault t k).opcCaset = s.opcCaset := rfl
@[simp] theorem State.transportFault_opcRaset (t : Tx) (k : Nat) : (s.transportFault t k).opcRaset = s.opcRaset := rfl
@[simp] theorem State.transportFault_opcRamwr (t : Tx) (k : Nat) : (s.transportFault t k).opcRamwr = s.opcRamwr := rfl
@[simp] theorem State.transportFault_opcMadctl (t : Tx) (k : Nat) : (s.transportFault t k).opcMadctl = s.opcMadctl := rfl
@[simp] theorem State.transportFault_madctl0 (t : Tx) (k : Nat) : (s.transportFault t k).madctl0 = s.madctl0 := rfl
@[simp] theorem State.transportFault_madctl1 (t : Tx) (k : Nat) : (s.transportFault t k).madctl1 = s.madctl1 := rfl
@[simp] theorem State.transportFault_madctl2 (t : Tx) (k : Nat) : (s.transportFault t k).madctl2 = s.madctl2 := rfl
@[simp] theorem State.transportFault_madctl3 (t : Tx) (k : Nat) : (s.transportFault t k).madctl3 = s.madctl3 := rfl
@[simp] theorem State.transportFault_winXs (t : Tx) (k : Nat) : (s.transportFault t k).winXs = s.winXs := rfl
@[simp] theorem State.transportFault_winYs (t : Tx) (k : Nat) : (s.transportFault t k).winYs = s.winYs := rfl
@[simp] theorem State.transportFault_winXe (t : Tx) (k : Nat) : (s.transportFault t k).winXe = s.winXe := rfl
@[simp] theorem State.transportFault_winYe (t : Tx) (k : Nat) : (s.transportFault t k).winYe = s.winYe := rfl
@[simp] theorem State.transportFault_args (t : Tx) (k : Nat) : (s.transportFault t k).args = s.args := rfl
@[simp] theorem State.transportFault_phase (t : Tx) (k : Nat) : (s.transportFault t k).phase = .idle := rfl
@[simp] theorem State.transportFault_latch (t : Tx) (k : Nat) : (s.transportFault t k).latch = s.latch := rfl
@[simp] theorem State.transportFault_q (t : Tx) (k : Nat) : (s.transportFault t k).q = [] := rfl
@[simp] theorem State.transportFault_bulk (t : Tx) (k : Nat) : (s.transportFault t k).bulk = none := rfl
@[simp] theorem State.transportFault_mem (t : Tx) (k : Nat) : (s.transportFault t k).mem = s.mem := rfl
@[simp] theorem State.transportFault_rom (t : Tx) (k : Nat) : (s.transportFault t k).rom = s.rom := rfl
@[simp] theorem State.transportFault_trace (t : Tx) (k : Nat) : (s.transportFault t k).trace = s.trace ++ [.broken t (min k t.bytes.length)] := rfl
@[simp] theorem State.transportFault_stalled (t : Tx) (k : Nat) : (s.transportFault t k).stalled = s.stalled := rfl
@[simp] theorem State.transportFault_seenMem (t : Tx) (k : Nat) : (s.transportFault t k).seenMem = s.seenMem := rfl
@[simp] theorem State.transportFault_seenGrant (t : Tx) (k : Nat) : (s.transportFault t k).seenGrant = s.seenGrant := rfl
@[simp] theorem State.transportFault_performed (t : Tx) (k : Nat) : (s.transportFault t k).performed = s.performed := rfl
@[simp] theorem State.transportFault_grants (t : Tx) (k : Nat) : (s.transportFault t k).grants = s.grants := rfl
@[simp] theorem State.transportFault_draws (t : Tx) (k : Nat) : (s.transportFault t k).draws = s.draws := rfl
@[simp] theorem State.transportFault_agenda (t : Tx) (k : Nat) : (s.transportFault t k).agenda = s.agenda := rfl
@[simp] theorem State.transportFault_readData (t : Tx) (k : Nat) : (s.transportFault t k).readData = s.readData := rfl
@[simp] theorem State.transportFault_racing (t : Tx) (k : Nat) : (s.transportFault t k).racing = s.racing := rfl
@[simp] theorem State.transportFault_madctlReset (t : Tx) (k : Nat) : (s.transportFault t k).madctlReset = s.madctlReset := rfl

/-! ## `State.stall` -/

@[simp] theorem State.stall_cmd : s.stall.cmd = s.cmd := rfl
@[simp] theorem State.stall_winv : s.stall.winv = s.winv := rfl
@[simp] theorem State.stall_fallback : s.stall.fallback = s.fallback := rfl
@[simp] theorem State.stall_overrun : s.stall.overrun = s.overrun := rfl
@[simp] theorem State.stall_err : s.stall.err = s.err := rfl
@[simp] theorem State.stall_bulkEn : s.stall.bulkEn = s.bulkEn := rfl
@[simp] theorem State.stall_orient : s.stall.orient = s.orient := rfl
@[simp] theorem State.stall_panelW : s.stall.panelW = s.panelW := rfl
@[simp] theorem State.stall_panelH : s.stall.panelH = s.panelH := rfl
@[simp] theorem State.stall_controllerId : s.stall.controllerId = s.controllerId := rfl
@[simp] theorem State.stall_opcCaset : s.stall.opcCaset = s.opcCaset := rfl
@[simp] theorem State.stall_opcRaset : s.stall.opcRaset = s.opcRaset := rfl
@[simp] theorem State.stall_opcRamwr : s.stall.opcRamwr = s.opcRamwr := rfl
@[simp] theorem State.stall_opcMadctl : s.stall.opcMadctl = s.opcMadctl := rfl
@[simp] theorem State.stall_madctl0 : s.stall.madctl0 = s.madctl0 := rfl
@[simp] theorem State.stall_madctl1 : s.stall.madctl1 = s.madctl1 := rfl
@[simp] theorem State.stall_madctl2 : s.stall.madctl2 = s.madctl2 := rfl
@[simp] theorem State.stall_madctl3 : s.stall.madctl3 = s.madctl3 := rfl
@[simp] theorem State.stall_winXs : s.stall.winXs = s.winXs := rfl
@[simp] theorem State.stall_winYs : s.stall.winYs = s.winYs := rfl
@[simp] theorem State.stall_winXe : s.stall.winXe = s.winXe := rfl
@[simp] theorem State.stall_winYe : s.stall.winYe = s.winYe := rfl
@[simp] theorem State.stall_args : s.stall.args = s.args := rfl
@[simp] theorem State.stall_phase : s.stall.phase = s.phase := rfl
@[simp] theorem State.stall_latch : s.stall.latch = s.latch := rfl
@[simp] theorem State.stall_q : s.stall.q = s.q := rfl
@[simp] theorem State.stall_bulk : s.stall.bulk = s.bulk := rfl
@[simp] theorem State.stall_mem : s.stall.mem = s.mem := rfl
@[simp] theorem State.stall_rom : s.stall.rom = s.rom := rfl
@[simp] theorem State.stall_trace : s.stall.trace = s.trace := rfl
@[simp] theorem State.stall_stalled : s.stall.stalled = true := rfl
@[simp] theorem State.stall_seenMem : s.stall.seenMem = s.seenMem := rfl
@[simp] theorem State.stall_seenGrant : s.stall.seenGrant = s.seenGrant := rfl
@[simp] theorem State.stall_performed : s.stall.performed = s.performed := rfl
@[simp] theorem State.stall_grants : s.stall.grants = s.grants := rfl
@[simp] theorem State.stall_draws : s.stall.draws = s.draws := rfl
@[simp] theorem State.stall_agenda : s.stall.agenda = s.agenda := rfl
@[simp] theorem State.stall_readData : s.stall.readData = s.readData := rfl
@[simp] theorem State.stall_racing : s.stall.racing = s.racing := rfl
@[simp] theorem State.stall_madctlReset : s.stall.madctlReset = s.madctlReset := rfl

/-! ## `State.platformWrite` -/

@[simp] theorem State.platformWrite_cmd (addr : Word) (b : Byte) : (s.platformWrite addr b).cmd = s.cmd := rfl
@[simp] theorem State.platformWrite_winv (addr : Word) (b : Byte) : (s.platformWrite addr b).winv = s.winv := rfl
@[simp] theorem State.platformWrite_fallback (addr : Word) (b : Byte) : (s.platformWrite addr b).fallback = s.fallback := rfl
@[simp] theorem State.platformWrite_overrun (addr : Word) (b : Byte) : (s.platformWrite addr b).overrun = s.overrun := rfl
@[simp] theorem State.platformWrite_err (addr : Word) (b : Byte) : (s.platformWrite addr b).err = s.err := rfl
@[simp] theorem State.platformWrite_bulkEn (addr : Word) (b : Byte) : (s.platformWrite addr b).bulkEn = s.bulkEn := rfl
@[simp] theorem State.platformWrite_orient (addr : Word) (b : Byte) : (s.platformWrite addr b).orient = s.orient := rfl
@[simp] theorem State.platformWrite_panelW (addr : Word) (b : Byte) : (s.platformWrite addr b).panelW = s.panelW := rfl
@[simp] theorem State.platformWrite_panelH (addr : Word) (b : Byte) : (s.platformWrite addr b).panelH = s.panelH := rfl
@[simp] theorem State.platformWrite_controllerId (addr : Word) (b : Byte) : (s.platformWrite addr b).controllerId = s.controllerId := rfl
@[simp] theorem State.platformWrite_opcCaset (addr : Word) (b : Byte) : (s.platformWrite addr b).opcCaset = s.opcCaset := rfl
@[simp] theorem State.platformWrite_opcRaset (addr : Word) (b : Byte) : (s.platformWrite addr b).opcRaset = s.opcRaset := rfl
@[simp] theorem State.platformWrite_opcRamwr (addr : Word) (b : Byte) : (s.platformWrite addr b).opcRamwr = s.opcRamwr := rfl
@[simp] theorem State.platformWrite_opcMadctl (addr : Word) (b : Byte) : (s.platformWrite addr b).opcMadctl = s.opcMadctl := rfl
@[simp] theorem State.platformWrite_madctl0 (addr : Word) (b : Byte) : (s.platformWrite addr b).madctl0 = s.madctl0 := rfl
@[simp] theorem State.platformWrite_madctl1 (addr : Word) (b : Byte) : (s.platformWrite addr b).madctl1 = s.madctl1 := rfl
@[simp] theorem State.platformWrite_madctl2 (addr : Word) (b : Byte) : (s.platformWrite addr b).madctl2 = s.madctl2 := rfl
@[simp] theorem State.platformWrite_madctl3 (addr : Word) (b : Byte) : (s.platformWrite addr b).madctl3 = s.madctl3 := rfl
@[simp] theorem State.platformWrite_winXs (addr : Word) (b : Byte) : (s.platformWrite addr b).winXs = s.winXs := rfl
@[simp] theorem State.platformWrite_winYs (addr : Word) (b : Byte) : (s.platformWrite addr b).winYs = s.winYs := rfl
@[simp] theorem State.platformWrite_winXe (addr : Word) (b : Byte) : (s.platformWrite addr b).winXe = s.winXe := rfl
@[simp] theorem State.platformWrite_winYe (addr : Word) (b : Byte) : (s.platformWrite addr b).winYe = s.winYe := rfl
@[simp] theorem State.platformWrite_args (addr : Word) (b : Byte) : (s.platformWrite addr b).args = s.args := rfl
@[simp] theorem State.platformWrite_phase (addr : Word) (b : Byte) : (s.platformWrite addr b).phase = s.phase := rfl
@[simp] theorem State.platformWrite_latch (addr : Word) (b : Byte) : (s.platformWrite addr b).latch = s.latch := rfl
@[simp] theorem State.platformWrite_q (addr : Word) (b : Byte) : (s.platformWrite addr b).q = s.q := rfl
@[simp] theorem State.platformWrite_bulk (addr : Word) (b : Byte) : (s.platformWrite addr b).bulk = s.bulk := rfl
@[simp] theorem State.platformWrite_mem (addr : Word) (b : Byte) : (s.platformWrite addr b).mem = Memory.writeByte s.mem addr.toNat b := rfl
@[simp] theorem State.platformWrite_rom (addr : Word) (b : Byte) : (s.platformWrite addr b).rom = s.rom := rfl
@[simp] theorem State.platformWrite_trace (addr : Word) (b : Byte) : (s.platformWrite addr b).trace = s.trace := rfl
@[simp] theorem State.platformWrite_stalled (addr : Word) (b : Byte) : (s.platformWrite addr b).stalled = s.stalled := rfl
@[simp] theorem State.platformWrite_seenMem (addr : Word) (b : Byte) : (s.platformWrite addr b).seenMem = s.seenMem := rfl
@[simp] theorem State.platformWrite_seenGrant (addr : Word) (b : Byte) : (s.platformWrite addr b).seenGrant = s.seenGrant := rfl
@[simp] theorem State.platformWrite_performed (addr : Word) (b : Byte) : (s.platformWrite addr b).performed = s.performed := rfl
@[simp] theorem State.platformWrite_grants (addr : Word) (b : Byte) : (s.platformWrite addr b).grants = s.grants := rfl
@[simp] theorem State.platformWrite_draws (addr : Word) (b : Byte) : (s.platformWrite addr b).draws = s.draws := rfl
@[simp] theorem State.platformWrite_agenda (addr : Word) (b : Byte) : (s.platformWrite addr b).agenda = s.agenda := rfl
@[simp] theorem State.platformWrite_readData (addr : Word) (b : Byte) : (s.platformWrite addr b).readData = s.readData := rfl
@[simp] theorem State.platformWrite_racing (addr : Word) (b : Byte) : (s.platformWrite addr b).racing = if s.busy then s.racing ++ [⟨addr, b⟩] else s.racing := rfl
@[simp] theorem State.platformWrite_madctlReset (addr : Word) (b : Byte) : (s.platformWrite addr b).madctlReset = s.madctlReset := rfl

/-! ## `State.goOnSeeing` -/

@[simp] theorem State.goOnSeeing_cmd (m : List Host.Cell) (its : List Item) : (s.goOnSeeing m its).cmd = s.cmd := rfl
@[simp] theorem State.goOnSeeing_winv (m : List Host.Cell) (its : List Item) : (s.goOnSeeing m its).winv = s.winv := rfl
@[simp] theorem State.goOnSeeing_fallback (m : List Host.Cell) (its : List Item) : (s.goOnSeeing m its).fallback = s.fallback := rfl
@[simp] theorem State.goOnSeeing_overrun (m : List Host.Cell) (its : List Item) : (s.goOnSeeing m its).overrun = s.overrun := rfl
@[simp] theorem State.goOnSeeing_err (m : List Host.Cell) (its : List Item) : (s.goOnSeeing m its).err = s.err := rfl
@[simp] theorem State.goOnSeeing_bulkEn (m : List Host.Cell) (its : List Item) : (s.goOnSeeing m its).bulkEn = s.bulkEn := rfl
@[simp] theorem State.goOnSeeing_orient (m : List Host.Cell) (its : List Item) : (s.goOnSeeing m its).orient = s.orient := rfl
@[simp] theorem State.goOnSeeing_panelW (m : List Host.Cell) (its : List Item) : (s.goOnSeeing m its).panelW = s.panelW := rfl
@[simp] theorem State.goOnSeeing_panelH (m : List Host.Cell) (its : List Item) : (s.goOnSeeing m its).panelH = s.panelH := rfl
@[simp] theorem State.goOnSeeing_controllerId (m : List Host.Cell) (its : List Item) : (s.goOnSeeing m its).controllerId = s.controllerId := rfl
@[simp] theorem State.goOnSeeing_opcCaset (m : List Host.Cell) (its : List Item) : (s.goOnSeeing m its).opcCaset = s.opcCaset := rfl
@[simp] theorem State.goOnSeeing_opcRaset (m : List Host.Cell) (its : List Item) : (s.goOnSeeing m its).opcRaset = s.opcRaset := rfl
@[simp] theorem State.goOnSeeing_opcRamwr (m : List Host.Cell) (its : List Item) : (s.goOnSeeing m its).opcRamwr = s.opcRamwr := rfl
@[simp] theorem State.goOnSeeing_opcMadctl (m : List Host.Cell) (its : List Item) : (s.goOnSeeing m its).opcMadctl = s.opcMadctl := rfl
@[simp] theorem State.goOnSeeing_madctl0 (m : List Host.Cell) (its : List Item) : (s.goOnSeeing m its).madctl0 = s.madctl0 := rfl
@[simp] theorem State.goOnSeeing_madctl1 (m : List Host.Cell) (its : List Item) : (s.goOnSeeing m its).madctl1 = s.madctl1 := rfl
@[simp] theorem State.goOnSeeing_madctl2 (m : List Host.Cell) (its : List Item) : (s.goOnSeeing m its).madctl2 = s.madctl2 := rfl
@[simp] theorem State.goOnSeeing_madctl3 (m : List Host.Cell) (its : List Item) : (s.goOnSeeing m its).madctl3 = s.madctl3 := rfl
@[simp] theorem State.goOnSeeing_winXs (m : List Host.Cell) (its : List Item) : (s.goOnSeeing m its).winXs = s.winXs := rfl
@[simp] theorem State.goOnSeeing_winYs (m : List Host.Cell) (its : List Item) : (s.goOnSeeing m its).winYs = s.winYs := rfl
@[simp] theorem State.goOnSeeing_winXe (m : List Host.Cell) (its : List Item) : (s.goOnSeeing m its).winXe = s.winXe := rfl
@[simp] theorem State.goOnSeeing_winYe (m : List Host.Cell) (its : List Item) : (s.goOnSeeing m its).winYe = s.winYe := rfl
@[simp] theorem State.goOnSeeing_args (m : List Host.Cell) (its : List Item) : (s.goOnSeeing m its).args = s.args := rfl
@[simp] theorem State.goOnSeeing_phase (m : List Host.Cell) (its : List Item) : (s.goOnSeeing m its).phase = if its.drop s.performed = [] then .idle else .busy := rfl
@[simp] theorem State.goOnSeeing_latch (m : List Host.Cell) (its : List Item) : (s.goOnSeeing m its).latch = s.latch := rfl
@[simp] theorem State.goOnSeeing_q (m : List Host.Cell) (its : List Item) : (s.goOnSeeing m its).q = its.drop s.performed := rfl
@[simp] theorem State.goOnSeeing_bulk (m : List Host.Cell) (its : List Item) : (s.goOnSeeing m its).bulk = if its.drop s.performed = [] then none else s.bulk := rfl
@[simp] theorem State.goOnSeeing_mem (m : List Host.Cell) (its : List Item) : (s.goOnSeeing m its).mem = s.mem := rfl
@[simp] theorem State.goOnSeeing_rom (m : List Host.Cell) (its : List Item) : (s.goOnSeeing m its).rom = s.rom := rfl
@[simp] theorem State.goOnSeeing_trace (m : List Host.Cell) (its : List Item) : (s.goOnSeeing m its).trace = s.trace := rfl
@[simp] theorem State.goOnSeeing_stalled (m : List Host.Cell) (its : List Item) : (s.goOnSeeing m its).stalled = s.stalled := rfl
@[simp] theorem State.goOnSeeing_seenMem (m : List Host.Cell) (its : List Item) : (s.goOnSeeing m its).seenMem = m := rfl
@[simp] theorem State.goOnSeeing_seenGrant (m : List Host.Cell) (its : List Item) : (s.goOnSeeing m its).seenGrant = s.seenGrant := rfl
@[simp] theorem State.goOnSeeing_performed (m : List Host.Cell) (its : List Item) : (s.goOnSeeing m its).performed = s.performed := rfl
@[simp] theorem State.goOnSeeing_grants (m : List Host.Cell) (its : List Item) : (s.goOnSeeing m its).grants = s.grants := rfl
@[simp] theorem State.goOnSeeing_draws (m : List Host.Cell) (its : List Item) : (s.goOnSeeing m its).draws = s.draws := rfl
@[simp] theorem State.goOnSeeing_agenda (m : List Host.Cell) (its : List Item) : (s.goOnSeeing m its).agenda = s.agenda := rfl
@[simp] theorem State.goOnSeeing_readData (m : List Host.Cell) (its : List Item) : (s.goOnSeeing m its).readData = s.readData := rfl
@[simp] theorem State.goOnSeeing_racing (m : List Host.Cell) (its : List Item) : (s.goOnSeeing m its).racing = s.racing := rfl
@[simp] theorem State.goOnSeeing_madctlReset (m : List Host.Cell) (its : List Item) : (s.goOnSeeing m its).madctlReset = s.madctlReset := rfl

end Sys2Proof.Machine
end

