-- ==== Sys2Proof/Laws/Ops.lean ====
section
/-! SUPPORT. One lemma per shared operation that says everything it can do; proofs cite these and do not unfold the
operations again. -/

namespace Sys2Proof.Machine

/-- Every arm of `exec` is one issue of its word and its expansion (R35, R75). -/
theorem exec_eq_issue (i : Instr) (s : State) : exec i s = .next (s.issue (encode i) (expandOf i)) := by
  cases i <;> rfl

theorem State.issue_busy {s : State} (h : s.phase = .busy) (w : Word) (e : View → Expansion) :
    s.issue w e = s.dropWrite := by
  simp [State.issue, h]

theorem State.issue_idle {s : State} (h : s.phase = .idle) (w : Word) (e : View → Expansion) :
    s.issue w e = (s.beginCommand w).startExpansion (e (s.viewFor w)) := by
  simp [State.issue, h]

@[simp] theorem State.startExpansion_error (s : State) (c : ErrCode) :
    s.startExpansion (.error c) = s.reject c := rfl

@[simp] theorem State.startExpansion_nil (s : State) (fb : Bool) (b : Option BulkBuffer) :
    s.startExpansion (.items [] fb b) = { s with fallback := fb } := rfl

theorem State.startExpansion_items {its : List Item} (h : its ≠ []) (s : State) (fb : Bool) (b : Option BulkBuffer) :
    s.startExpansion (.items its fb b) = { s with q := its, phase := .busy, fallback := fb, bulk := b } := by
  cases its with
  | nil => exact absurd rfl h
  | cons it its => rfl

/-- What issuing a word can do (R16, R35): it is dropped while busy; from an idle state it is rejected, completes at
once, or starts the engine. -/
theorem State.issue_cases (s : State) (w : Word) (e : View → Expansion) :
    (s.phase = .busy ∧ s.issue w e = s.dropWrite) ∨
    (s.phase = .idle ∧ ∃ c, e (s.viewFor w) = .error c ∧ s.issue w e = (s.beginCommand w).reject c) ∨
    (s.phase = .idle ∧ ∃ fb b, e (s.viewFor w) = .items [] fb b ∧
      s.issue w e = { s.beginCommand w with fallback := fb }) ∨
    (s.phase = .idle ∧ ∃ its fb b, its ≠ [] ∧ e (s.viewFor w) = .items its fb b ∧
      s.issue w e = { s.beginCommand w with q := its, phase := .busy, fallback := fb, bulk := b }) := by
  cases hp : s.phase with
  | busy => exact .inl ⟨rfl, State.issue_busy hp w e⟩
  | idle =>
    rw [State.issue_idle hp]
    cases he : e (s.viewFor w) with
    | error c => exact .inr (.inl ⟨rfl, c, rfl, rfl⟩)
    | items its fb b =>
      cases its with
      | nil => exact .inr (.inr (.inl ⟨rfl, fb, b, rfl, rfl⟩))
      | cons it its => exact .inr (.inr (.inr ⟨rfl, it :: its, fb, b, List.cons_ne_nil _ _, rfl, rfl⟩))

/-- What one engine step can do (R36, R135, R136). -/
theorem State.engineStep_cases (s : State) (ans : BusAnswer) :
    (s.engineStep ans = s ∧ (s.phase = .idle ∨ s.stalled = true)) ∨
    (s.phase = .busy ∧ s.stalled = false ∧
      ((∃ m rest, s.q = .mark m :: rest ∧ s.engineStep ans = (s.applyMark m).advance rest) ∨
       (∃ t rest, s.q = .tx t :: rest ∧ ans = .ok ∧ s.engineStep ans = (s.carry t).advance rest) ∨
       (∃ t rest k, s.q = .tx t :: rest ∧ ans = .fault k ∧ s.engineStep ans = s.transportFault t k) ∨
       (∃ t rest, s.q = .tx t :: rest ∧ ans = .noAnswer ∧ s.engineStep ans = s.stall) ∨
       (s.q = [] ∧ s.engineStep ans = { s with phase := .idle }))) := by
  cases hp : s.phase with
  | idle => exact .inl ⟨by simp [State.engineStep, hp], .inl rfl⟩
  | busy =>
    cases hs : s.stalled with
    | true => exact .inl ⟨by simp [State.engineStep, hp, hs], .inr rfl⟩
    | false =>
      refine .inr ⟨rfl, rfl, ?_⟩
      cases hq : s.q with
      | nil => simp [State.engineStep, hp, hs, hq]
      | cons it rest =>
        cases it with
        | mark m => simp [State.engineStep, hp, hs, hq]
        | tx t => cases ans <;> simp [State.engineStep, hp, hs, hq]

/-- The platform's write keeps the canonical form of the memory (R44). -/
theorem State.platformWrite_wf {s : State} {addr : Word} {b : Byte} (hm : Memory.wf s.mem = true) :
    Memory.wf (s.platformWrite addr b).mem = true :=
  Memory.writeByte_wf addr.isLt hm

/-- What a late read can do (R46, R134): nothing; or make the running command go on with the expansion of the mixture,
which begins with the items already performed. -/
theorem State.lateRead_cases (s : State) (bytes : List RacingByte) :
    s.lateRead bytes = s ∨
    (s.phase = .busy ∧ s.stalled = false ∧ (∀ b ∈ bytes, b ∈ s.racing) ∧
      ∃ its fb b, s.expansionSeeing (memWith s.seenMem bytes) = .items its fb b ∧
        its.take s.performed = (s.expansionSeeing s.seenMem).list.take s.performed ∧
        s.lateRead bytes = s.goOnSeeing (memWith s.seenMem bytes) its) := by
  unfold State.lateRead
  split
  · next h =>
    simp only [Bool.and_eq_true, Bool.not_eq_true', State.busy, beq_iff_eq, List.all_eq_true, List.contains_iff_mem] at h
    unfold State.adoptMemory
    split
    · exact .inl rfl
    · next its fb b hi =>
      split
      · next ha => exact .inr ⟨h.1.1, h.1.2, h.2, its, fb, b, hi, by simpa [State.agreesWith] using ha, rfl⟩
      · exact .inl rfl
  · exact .inl rfl

/-- A late read leaves `ERR` as it is (R134). -/
theorem State.lateRead_err (s : State) (bytes : List RacingByte) : (s.lateRead bytes).err = s.err := by
  rcases s.lateRead_cases bytes with h | ⟨_, _, _, its, _, _, _, _, h⟩ <;> rw [h]
  rfl

/-- Every register of the map stands at its own offset (R14, R17). -/
theorem Reg.ofOffset_offset (r : Reg) : Reg.ofOffset r.offset = some r := by
  cases r with
  | arg i => revert i; decide
  | _ => decide

/-- What a host write can do (R15, R16, R18). -/
theorem hostWrite_cases (off : Offset) (v : Word) (s : State) :
    (Reg.ofOffset off = none ∧ hostWrite off v s = .next s) ∨
    (Reg.ofOffset off = some .cmd ∧ hostWrite off v s = issueWord v s) ∨
    (∃ r, r ≠ .cmd ∧ Reg.ofOffset off = some r ∧ hostWrite off v s = .next (s.guardedWrite r v)) := by
  unfold hostWrite
  cases h : Reg.ofOffset off with
  | none => exact .inl ⟨rfl, rfl⟩
  | some r =>
    cases r with
    | cmd => exact .inr (.inl ⟨rfl, rfl⟩)
    | _ => exact .inr (.inr ⟨_, by simp, rfl, rfl⟩)

/-- Issuing a word is one issue of its expansion (R18, R75, R78). -/
theorem issueWord_eq (w : Word) (s : State) : issueWord w s = .next (s.issue w (expandWord w)) ∨
    ∃ i, decode w = .ok i ∧ issueWord w s = exec i s := by
  unfold issueWord
  cases h : decode w with
  | ok i => exact .inr ⟨i, rfl, rfl⟩
  | error e =>
    left
    have he : expandWord w = fun _ => .error .illegalCommand := by
      funext v
      simp [expandWord, h]
    simp [execIllegal, he]

/-- A write that is not dropped keeps the argument registers, or writes one of them (R33). -/
theorem State.writeReg_args (s : State) (r : Reg) (v : Word) :
    (s.writeReg r v).args = s.args ∨ ∃ i, r = .arg i ∧ (s.writeReg r v).args = s.args.set i (wordHalf v) := by
  cases r with
  | arg i => exact .inr ⟨i, rfl, rfl⟩
  | panelW => simp only [State.writeReg]; split <;> exact .inl rfl
  | panelH => simp only [State.writeReg]; split <;> exact .inl rfl
  | _ => exact .inl rfl

@[simp] theorem ArgRegs.get_set_same (a : ArgRegs) (i : Fin 8) (v : Half) : (a.set i v).get i = v := by
  fin_cases i <;> rfl

theorem ArgRegs.get_set_other (a : ArgRegs) {i j : Fin 8} (v : Half) (h : j ≠ i) : (a.set i v).get j = a.get j := by
  revert h
  fin_cases i <;> fin_cases j <;> first | (intro h; exact absurd rfl h) | (intro _; rfl)

/-- A step takes the head of the agenda and performs it (R13). -/
theorem step_cons {s : State} {e : Event} {rest : List Event} (h : s.agenda = e :: rest) :
    step s = perform e (s.withAgenda rest) := by
  simp [step, stepOnce, h]

/-- With no move left, nothing happens. -/
theorem step_nil {s : State} (h : s.agenda = []) : step s = .next s := by
  simp [step, stepOnce, h]

/-- Every step answers a next state: nothing the spec describes stops the core (R15, R44, R130). -/
theorem step_answers_next (s : State) : ∃ t, step s = .next t := by
  cases h : s.agenda with
  | nil => exact ⟨s, step_nil h⟩
  | cons e rest =>
    rw [step_cons h]
    cases e with
    | hostRead off => exact ⟨_, rfl⟩
    | engine ans => exact ⟨_, rfl⟩
    | reset cut => exact ⟨_, rfl⟩
    | memWrite addr b => exact ⟨_, rfl⟩
    | lateRead bytes => exact ⟨_, rfl⟩
    | hostWrite off v =>
      rcases hostWrite_cases off v (s.withAgenda rest) with ⟨-, h⟩ | ⟨-, h⟩ | ⟨r, -, -, h⟩ <;>
        simp only [perform, h]
      · exact ⟨_, rfl⟩
      · rcases issueWord_eq v (s.withAgenda rest) with h | ⟨i, -, h⟩ <;> rw [h]
        · exact ⟨_, rfl⟩
        · exact ⟨_, exec_eq_issue i _⟩
      · exact ⟨_, rfl⟩

end Sys2Proof.Machine
end

