-- ==== Sys2Proof/Laws/HostProgram.lean ====
section
/-! SUPPORT. Host programs (R81, R82): what one turn does, and how the loop of `WAIT` goes on. -/

namespace Sys2Proof.Machine

variable (s : State) (rest : List HostOp)

@[simp] theorem HostOp.following_write (off : Offset) (v data : Word) :
    (HostOp.write off v).following rest data = rest := rfl

@[simp] theorem HostOp.following_read (off : Offset) (data : Word) :
    (HostOp.read off).following rest data = rest := rfl

@[simp] theorem HostOp.following_poll (data : Word) :
    HostOp.poll.following rest data = if data.getLsbD 0 then .poll :: rest else rest := rfl

@[simp] theorem HostRun.reach_next (t : State) (ops : State → List HostOp) :
    HostRun.reach (.next t) ops = .next ⟨t, ops t⟩ := rfl

@[simp] theorem HostRun.turn_ended (r : HostRun) (h : r.ops = []) : r.turn .host = .next r := by
  simp [HostRun.turn, h]

@[simp] theorem HostRun.turn_other (r : HostRun) (e : Event) :
    r.turn (.other e) = HostRun.reach (perform e r.core) fun _ => r.ops := rfl

/-- A turn of the host is the access of its next operation, made on the core. -/
theorem HostRun.turn_host (op : HostOp) :
    HostRun.turn ⟨s, op :: rest⟩ .host =
      HostRun.reach (perform op.access s) fun t => op.following rest t.readData := rfl

@[simp] theorem HostRun.turns_nil (r : HostRun) : r.turns [] = .next r := rfl

theorem HostRun.turns_cons {r r' : HostRun} {t : Turn} (ts : List Turn) (h : r.turn t = .next r') :
    r.turns (t :: ts) = r'.turns ts := by
  simp [HostRun.turns, h]

/-- `RD STATUS` returns the status word and changes nothing else (R14, R19). -/
theorem State.hostRead_status : s.hostRead Reg.status.offset = { s with readData := s.statusWord } := rfl

/-- Bit 0 of the status word is `BUSY` (R19, R20). -/
theorem State.statusWord_busy : s.statusWord.getLsbD 0 = s.busy := by
  simp only [State.statusWord, BitVec.getLsbD_append, BitVec.getLsbD_ofBool]
  simp

end Sys2Proof.Machine
end

