-- ==== Sys2Proof/Laws/PerInstr.lean ====
section
/-! SUPPORT. Statements made per instruction. Family `RoundTrip`: a command's word decodes to it, and no command's word
has a reserved bit set (R69, R73, R74). -/

namespace Sys2Proof.Laws.RoundTrip

/-- The command's word decodes to the command and its reserved bits are 0. -/
def Statement (i : Instr) : Prop := decode (encode i) = .ok i ∧ resField (encode i) = 0#22

theorem nop : Statement .nop := by unfold Statement; decide
theorem wrcmd : Statement .wrcmd := by unfold Statement; decide
theorem wrdata8 : Statement .wrdata8 := by unfold Statement; decide
theorem wrdata16 : Statement .wrdata16 := by unfold Statement; decide
theorem setwin : Statement .setwin := by unfold Statement; decide
theorem setorient : Statement .setorient := by unfold Statement; decide
theorem point : Statement .point := by unfold Statement; decide
theorem line : Statement .line := by unfold Statement; decide
theorem rect : Statement .rect := by unfold Statement; decide
theorem rectf : Statement .rectf := by unfold Statement; decide
theorem circle : Statement .circle := by unfold Statement; decide
theorem circlef : Statement .circlef := by unfold Statement; decide
theorem tri : Statement .tri := by unfold Statement; decide
theorem trif : Statement .trif := by unfold Statement; decide
theorem textchar (ov : Bool) : Statement (.textchar ov) := by cases ov <;> (unfold Statement; decide)
theorem textstr (ov : Bool) : Statement (.textstr ov) := by cases ov <;> (unfold Statement; decide)
theorem textctr (ov : Bool) : Statement (.textctr ov) := by cases ov <;> (unfold Statement; decide)
theorem numeric (ov : Bool) : Statement (.numeric ov) := by cases ov <;> (unfold Statement; decide)
theorem blit : Statement .blit := by unfold Statement; decide
theorem fillscr : Statement .fillscr := by unfold Statement; decide

end Sys2Proof.Laws.RoundTrip
end

