-- ==== Sys2Proof/Laws/Wire.lean ====
section
/-! SUPPORT. The wires (R52): a panel that samples the data line at each rising edge receives the bytes, bit 7 first. -/

namespace Sys2Proof.Machine

theorem sampledBits_bitWire (data bit : Bool) (ws : List WireEvent) :
    sampledBits data (bitWire bit ++ ws) = bit :: sampledBits bit ws := rfl

theorem sampledBits_bits (data : Bool) (bits : List Bool) :
    sampledBits data (bits.flatMap bitWire ++ [.selectHigh]) = bits := by
  induction bits generalizing data with
  | nil => rfl
  | cons b bs ih =>
    rw [List.flatMap_cons, List.append_assoc, sampledBits_bitWire, ih]

/-- The bits sampled from a transaction are those of its bytes, in order (R52). -/
theorem sampledBits_wireOf (data : Bool) (dc : Dc) (bs : List Byte) :
    sampledBits data (wireOf dc bs) = bs.flatMap byteBits := by
  simpa [wireOf, sampledBits] using sampledBits_bits data (bs.flatMap byteBits)

theorem clockAfter_bits (bits : List Bool) : (bits.flatMap bitWire).foldl WireEvent.clockAfter false = false := by
  induction bits with
  | nil => rfl
  | cons b bs ih => rw [List.flatMap_cons, List.foldl_append]; exact ih

/-- The clock idles low: a transaction that begins with it low ends with it low (R52). -/
theorem clockAfter_wireOf (dc : Dc) (bs : List Byte) : (wireOf dc bs).foldl WireEvent.clockAfter false = false := by
  have h := clockAfter_bits (bs.flatMap byteBits)
  simp only [wireOf, List.foldl_append, List.foldl_cons, List.foldl_nil, WireEvent.clockAfter, h]

end Sys2Proof.Machine
end

