-- ==== Sys2Proof/Tests/Slice0.lean ====
section
/-! SUPPORT. Tests on fixed values, each from the vectors of spec/95_test_vectors.md or worked out by hand from the rule
it names, and one witness for each obligation that has hypotheses. -/

namespace Sys2Proof.Tests

open Sys2Proof Sys2Proof.Machine

/-! ## Small states -/

/-- `A0`..`A7` from a list; 0 where it ends. -/
def regs (l : List Nat) : ArgRegs :=
  let r (k : Nat) : Half := BitVec.ofNat 16 (l.getD k 0)
  ⟨r 0, r 1, r 2, r 3, r 4, r 5, r 6, r 7⟩

/-- The reset state with argument registers. -/
def idle (l : List Nat) : State := { State.reset with args := regs l }

/-- The next state of an outcome. -/
def after (o : Host.Outcome State Fault Refusal) : State :=
  match o with
  | .next t => t
  | .fault _ => State.reset
  | .refused _ => State.reset

/-- `s` with one move to come. -/
def facing (e : Event) (s : State) : State := { s with agenda := [e] }

/-- The state after one move. -/
def does (e : Event) (s : State) : State := after (step (facing e s))

/-- A command that was rejected with this code, emitting nothing (R134). -/
def rejects (o : Host.Outcome State Fault Refusal) (c : ErrCode) : Bool :=
  (after o).err == c && (after o).phase == .idle && (after o).q == [] && (after o).trace == []

/-- The test font TF of the vectors, for one size and some codes, as cells of the ROM table. -/
def tfCells (size : Nat) : List Nat → List Host.Cell
  | [] => []
  | code :: codes =>
    ((List.range size).map fun r =>
      ((code - 0x20) * size + r, if code = 0x20 then 0x00#8 else BitVec.ofNat 8 (2 ^ (r % (size / 2))))) ++
      tfCells size codes

/-- The reset state with the 12-row test font for these codes. -/
def withFont (codes : List Nat) (s : State) : State := { s with rom := ⟨tfCells 12 codes, []⟩ }

/-- The state with bytes of source memory from an address on. -/
def withBytes (a : Nat) (bs : List Byte) (s : State) : State :=
  { s with mem := bs.zipIdx.foldl (fun m p => Memory.writeByte m ((a + p.2) % 2 ^ 32) p.1) s.mem }

/-- A small panel, so that a full-screen fill is short. -/
def smallPanel (s : State) : State := { s with panelW := 3#16, panelH := 2#16 }

/-- A state in which the engine runs `POINT 3, 4, 0x07E0` (V-P1). -/
def busy : State := after (execPoint (idle [3, 4, 0x07E0]))

/-- The engine stuck on the first transaction of that command (V-ST1). -/
def stuck : State := does (.engine .noAnswer) busy

/-! ## Well-formedness: one ill-formed line for each check -/

theorem test_wf_arity : (CommandLine.mk .point [3, 4]).arityOk = false := by decide
theorem test_wf_arity_extra : (CommandLine.mk .nop [0]).wellFormed = false := by decide
theorem test_wf_range : (CommandLine.mk .point [3, 65536, 0]).rangesOk = false := by decide
theorem test_wf_range_byte : (CommandLine.mk .wrcmd [256]).wellFormed = false := by decide
theorem test_wf_range_wide : (CommandLine.mk .blit [0, 0, 1, 1, 2 ^ 32]).wellFormed = false := by decide
theorem test_wf_good : (CommandLine.mk .blit [5, 6, 2, 2, 0xFFFFFFFF]).wellFormed = true := by decide

/-! ## Decoding: words written out as `RES | OV | F | OPC` from R69 and R74 -/

theorem test_decode_nop : decode (0#22 ++ 0#1 ++ 0#1 ++ 0b00000000#8) = .ok .nop := by decide
theorem test_decode_wrcmd : decode (0#22 ++ 0#1 ++ 0#1 ++ 0b00000001#8) = .ok .wrcmd := by decide
theorem test_decode_wrdata8 : decode (0#22 ++ 0#1 ++ 0#1 ++ 0b00000010#8) = .ok .wrdata8 := by decide
theorem test_decode_wrdata16 : decode (0#22 ++ 0#1 ++ 0#1 ++ 0b00000011#8) = .ok .wrdata16 := by decide
theorem test_decode_setwin : decode (0#22 ++ 0#1 ++ 0#1 ++ 0b00000100#8) = .ok .setwin := by decide
theorem test_decode_setorient : decode (0#22 ++ 0#1 ++ 0#1 ++ 0b00000101#8) = .ok .setorient := by decide
theorem test_decode_point : decode (0#22 ++ 0#1 ++ 0#1 ++ 0b00010000#8) = .ok .point := by decide
theorem test_decode_line : decode (0#22 ++ 0#1 ++ 0#1 ++ 0b00010001#8) = .ok .line := by decide
theorem test_decode_rect : decode (0#22 ++ 0#1 ++ 0#1 ++ 0b00010010#8) = .ok .rect := by decide
theorem test_decode_rectf : decode (0#22 ++ 0#1 ++ 1#1 ++ 0b00010010#8) = .ok .rectf := by decide
theorem test_decode_circle : decode (0#22 ++ 0#1 ++ 0#1 ++ 0b00010011#8) = .ok .circle := by decide
theorem test_decode_circlef : decode (0#22 ++ 0#1 ++ 1#1 ++ 0b00010011#8) = .ok .circlef := by decide
theorem test_decode_tri : decode (0#22 ++ 0#1 ++ 0#1 ++ 0b00010100#8) = .ok .tri := by decide
theorem test_decode_trif : decode (0#22 ++ 0#1 ++ 1#1 ++ 0b00010100#8) = .ok .trif := by decide
theorem test_decode_textchar : decode (0#22 ++ 0#1 ++ 0#1 ++ 0b00100000#8) = .ok (.textchar false) ∧
    decode (0#22 ++ 1#1 ++ 0#1 ++ 0b00100000#8) = .ok (.textchar true) := by decide
theorem test_decode_textstr : decode (0#22 ++ 0#1 ++ 0#1 ++ 0b00100001#8) = .ok (.textstr false) ∧
    decode (0#22 ++ 1#1 ++ 0#1 ++ 0b00100001#8) = .ok (.textstr true) := by decide
theorem test_decode_textctr : decode (0#22 ++ 0#1 ++ 0#1 ++ 0b00100010#8) = .ok (.textctr false) ∧
    decode (0#22 ++ 1#1 ++ 0#1 ++ 0b00100010#8) = .ok (.textctr true) := by decide
theorem test_decode_numeric : decode (0#22 ++ 0#1 ++ 0#1 ++ 0b00100011#8) = .ok (.numeric false) ∧
    decode (0#22 ++ 1#1 ++ 0#1 ++ 0b00100011#8) = .ok (.numeric true) := by decide
theorem test_decode_blit : decode (0#22 ++ 0#1 ++ 0#1 ++ 0b00110000#8) = .ok .blit := by decide
theorem test_decode_fillscr : decode (0#22 ++ 0#1 ++ 0#1 ++ 0b00110001#8) = .ok .fillscr := by decide

/-- V-D6: unassigned operations. -/
theorem test_decode_unassigned : ([0x06#32, 0x0F#32, 0x15#32, 0x24#32, 0x32#32, 0xFF#32].map decode) =
    List.replicate 6 (.error .unassignedOpcode) := by decide
/-- V-D7, V-D9. -/
theorem test_decode_fill_misplaced : ([0x100#32, 0x120#32].map decode) =
    List.replicate 2 (.error .fillNotAllowed) := by decide
/-- V-D8, V-D10. -/
theorem test_decode_overlay_misplaced : ([0x200#32, 0x213#32, 0x313#32].map decode) =
    List.replicate 3 (.error .overlayNotAllowed) := by decide
/-- V-D11. -/
theorem test_decode_reserved : ([0x400#32, 0x80000011#32].map decode) =
    List.replicate 2 (.error .reservedBits) := by decide

/-! ## Commands: what the accept step puts in `Q` -/

/-- V-NOP1: after an error, `ERR = 0` and `OVERRUN` unchanged. -/
theorem test_nop :
    let t := after (execNop { idle [] with err := .invalidWindow, overrun := true })
    t.err = .none ∧ t.overrun = true ∧ t.phase = .idle ∧ t.q = [] := by decide

/-- V-X2: `A0[15:8]` is ignored, `WINV` is cleared first. -/
theorem test_wrcmd :
    (after (execWrcmd (idle [0xAB2A]))).q = [.mark .winInvalid, .tx ⟨.command, [0x2A#8]⟩] := by decide

/-- V-X3. -/
theorem test_wrdata8 : (after (execWrdata8 (idle [0x1234]))).q = [.tx ⟨.data, [0x34#8]⟩] := by decide

/-- V-X4: the high byte first. -/
theorem test_wrdata16 : (after (execWrdata16 (idle [0xF800]))).q = [.tx ⟨.data, [0xF8#8, 0x00#8]⟩] := by decide

/-- V-W1, byte by byte. -/
theorem test_setwin :
    (after (execSetwin (idle [10, 10, 19, 14]))).q =
      [.tx ⟨.command, [0x2A#8]⟩, .tx ⟨.data, [0x00#8]⟩, .tx ⟨.data, [0x0A#8]⟩, .tx ⟨.data, [0x00#8]⟩,
        .tx ⟨.data, [0x13#8]⟩, .tx ⟨.command, [0x2B#8]⟩, .tx ⟨.data, [0x00#8]⟩, .tx ⟨.data, [0x0A#8]⟩,
        .tx ⟨.data, [0x00#8]⟩, .tx ⟨.data, [0x0E#8]⟩, .tx ⟨.command, [0x2C#8]⟩,
        .mark (.winShadow 10#8 10#8 19#8 14#8)] := by decide

/-- V-W3a, V-W3b: `x1 = WIDTH`, and a reversed window. -/
theorem test_setwin_invalid : rejects (execSetwin (idle [0, 0, 128, 0])) .invalidWindow = true ∧
    rejects (execSetwin (idle [5, 0, 4, 0])) .invalidWindow = true := by decide

/-- V-O1. -/
theorem test_setorient :
    (after (execSetorient (idle [1]))).q =
      [.mark .winInvalid, .tx ⟨.command, [0x36#8]⟩, .tx ⟨.data, [0x60#8]⟩, .mark (.setOrient 1#2)] := by decide

/-- V-O5. -/
theorem test_setorient_invalid : rejects (execSetorient (idle [4])) .invalidArgument = true := by decide

/-- V-P1. -/
theorem test_point :
    (txsOf busy.q).map Tx.bytes =
      [[0x2A#8], [0x00#8], [0x03#8], [0x00#8], [0x03#8], [0x2B#8], [0x00#8], [0x04#8], [0x00#8], [0x04#8], [0x2C#8],
        [0x07#8, 0xE0#8],
        [0x2A#8], [0x00#8], [0x00#8], [0x00#8], [0x7F#8], [0x2B#8], [0x00#8], [0x00#8], [0x00#8], [0x9F#8],
        [0x2C#8]] := by decide

/-- V-P3, V-P4. -/
theorem test_point_off_screen : rejects (execPoint (idle [128, 0, 1])) .invalidWindow = true ∧
    rejects (execPoint (idle [0, 160, 1])) .invalidWindow = true := by decide

/-- V-L3: a sloped line towards smaller columns. -/
theorem test_line :
    let s := idle [10, 3, 4, 7, 0x1234]
    (after (execLine s)).q =
      ([(10, 3), (9, 4), (8, 4), (7, 5), (6, 6), (5, 6), (4, 7)].flatMap (plotItems s 0x1234#16)) ++
        restoreItems s := by decide +kernel

/-- V-L2: the reversed tie. -/
theorem test_line_tie : linePoints 2 1 0 0 = [(2, 1), (1, 1), (0, 0)] ∧
    linePoints 0 0 2 1 = [(0, 0), (1, 0), (2, 1)] := by decide

/-- V-R1: top, left, bottom, right. -/
theorem test_rect :
    let s := idle [0, 0, 3, 2, 5]
    (after (execRect s)).q =
      ([(0, 0), (1, 0), (2, 0), (3, 0), (0, 0), (0, 1), (0, 2), (0, 2), (1, 2), (2, 2), (3, 2), (3, 0), (3, 1),
        (3, 2)].flatMap (plotItems s 5#16)) ++ restoreItems s := by decide +kernel

/-- V-R3: reversed corners are not swapped. -/
theorem test_rect_reversed : rejects (execRect (idle [3, 0, 2, 2, 5])) .invalidWindow = true := by decide

/-- V-R4, S6: one window, 50 pixels, the restore. -/
theorem test_rectf :
    let s := idle [10, 10, 19, 14, 0xF800]
    (after (execRectf s)).q =
      windowItems s 10 10 19 14 ++ List.replicate 50 (.tx ⟨.data, [0xF8#8, 0x00#8]⟩) ++
        windowItems s 0 0 127 159 := by decide +kernel

/-- V-R6. -/
theorem test_rectf_off_screen : rejects (execRectf (idle [0, 0, 127, 160, 5])) .invalidWindow = true := by decide

/-- V-CI3: the outline's plots, in order. -/
theorem test_circle :
    let s := idle [20, 20, 2, 9]
    (after (execCircle s)).q =
      ([(20, 18), (22, 20), (20, 22), (18, 20), (21, 18), (22, 19), (22, 21), (21, 22), (19, 22), (18, 21), (19, 18),
        (18, 19)].flatMap (plotItems s 9#16)) ++ restoreItems s := by decide +kernel

/-- V-CI7, V-CI9. -/
theorem test_circle_off_screen : rejects (execCircle (idle [1, 5, 2, 1])) .invalidWindow = true ∧
    rejects (execCircle (idle [125, 20, 3, 1])) .invalidWindow = true := by decide

/-- V-CI5: the fill's plots, in order. -/
theorem test_circlef :
    let s := idle [20, 20, 2, 9]
    (after (execCirclef s)).q =
      ([(20, 20), (20, 19), (21, 20), (20, 21), (19, 20), (20, 18), (22, 20), (20, 22), (18, 20), (21, 19), (21, 21),
        (19, 21), (19, 19), (21, 18), (22, 19), (22, 21), (21, 22), (19, 22), (18, 21), (19, 18),
        (18, 19)].flatMap (plotItems s 9#16)) ++ restoreItems s := by decide +kernel

/-- V-T1: the three edges. -/
theorem test_tri :
    let s := idle [0, 0, 4, 0, 2, 3, 7]
    (after (execTri s)).q =
      ([(0, 0), (1, 0), (2, 0), (3, 0), (4, 0), (4, 0), (3, 1), (3, 2), (2, 3), (2, 3), (1, 2), (1, 1),
        (0, 0)].flatMap (plotItems s 7#16)) ++ restoreItems s := by decide +kernel

/-- V-T9: a general triangle; its colour is `A6`. -/
theorem test_trif :
    let s := idle [0, 0, 2, 4, 5, 2, 7]
    (after (execTrif s)).q =
      ([(0, 0, 0), (1, 0, 2), (2, 1, 5), (3, 1, 4), (4, 2, 2)].flatMap (scanItems s 7#16)) ++
        restoreItems s := by decide +kernel

/-- V-T3, V-T4: a flat top, and the degenerate triangle. -/
theorem test_trif_spans :
    triangleSpans (0, 0) (10, 0) (5, 8) =
      [(0, 0, 10), (1, 0, 10), (2, 1, 9), (3, 1, 9), (4, 2, 8), (5, 3, 7), (6, 3, 7), (7, 4, 6), (8, 5, 5)] ∧
    triangleSpans (3, 5) (9, 5) (1, 5) = [(5, 1, 9)] := by decide +kernel

/-- V-G2: overlay plots of the diagonal. -/
theorem test_textchar_overlay :
    let s := withFont [0x41] (idle [10, 20, 0xF800, 0, 0x41, 12])
    (after (execTextchar true s)).q =
      ([(10, 20), (11, 21), (12, 22), (13, 23), (14, 24), (15, 25), (10, 26), (11, 27), (12, 28), (13, 29), (14, 30),
        (15, 31)].flatMap (plotItems s 0xF800#16)) ++ restoreItems s := by decide +kernel

/-- V-E1, V-E2, V-E3: the order of the checks. -/
theorem test_textchar_checks :
    rejects (execTextchar false (idle [500, 0, 1, 2, 0x7F, 10])) .unsupportedGlyphSize = true ∧
    rejects (execTextchar false (idle [500, 0, 1, 2, 0x7F, 12])) .invalidArgument = true ∧
    rejects (execTextchar false (idle [500, 0, 1, 2, 0x41, 12])) .invalidWindow = true := by decide

/-- V-S2: bytes that are not printable are skipped; the second glyph is at x = 6. -/
theorem test_textstr :
    let s := withFont [0x41, 0x42] (withBytes 0x1000 [0x41#8, 0x0A#8, 0x00#8, 0x42#8] (idle [0, 0, 0xFFFF, 0, 4, 12, 0x1000]))
    let q := (after (execTextstr false s)).q
    q.take 12 = windowItems s 0 0 5 11 ∧ (q.drop 12).take 7 = [0xFFFF#16, 0, 0, 0, 0, 0, 0].map pixelItem ∧
      (q.drop 84).take 12 = windowItems s 6 0 11 11 ∧ (txsOf q).length = 177 := by decide +kernel

/-- V-S3, V-S7: the no-op of an empty string comes after the size check and before the window check. -/
theorem test_textstr_empty :
    rejects (execTextstr false (withBytes 5 [0x0A#8, 0x00#8] (idle [200, 200, 1, 2, 2, 12, 5]))) .none = true ∧
    rejects (execTextstr false (idle [0, 0, 1, 2, 0, 10, 5])) .unsupportedGlyphSize = true := by decide +kernel

/-- V-C2: the centred run starts at (55, 74). -/
theorem test_textctr :
    let s := withFont [0x41, 0x42, 0x43] (withBytes 5 [0x41#8, 0x42#8, 0x43#8] (idle [0, 0, 0xFFFF, 0, 3, 12, 5]))
    let q := (after (execTextctr false s)).q
    q.take 12 = windowItems s 55 74 60 85 ∧ (q.drop 84).take 12 = windowItems s 61 74 66 85 ∧
      (q.drop 168).take 12 = windowItems s 67 74 72 85 ∧ (txsOf q).length = 260 := by decide +kernel

/-- V-C4: a run of 136 columns. -/
theorem test_textctr_wide :
    rejects (execTextctr false (withBytes 0 (List.replicate 17 0x41#8) (idle [0, 0, 1, 2, 17, 16]))) .invalidWindow =
      true := by decide +kernel

/-- V-N10: `NUMERIC.OV` of 7 in three places. -/
theorem test_numeric_overlay :
    let s := withFont [0x20, 0x37] (idle [0, 0, 0xFFFF, 0, 3, 12, 7])
    (after (execNumeric true s)).q =
      ([(12, 0), (13, 1), (14, 2), (15, 3), (16, 4), (17, 5), (12, 6), (13, 7), (14, 8), (15, 9), (16, 10),
        (17, 11)].flatMap (plotItems s 0xFFFF#16)) ++ restoreItems s := by decide +kernel

/-- V-E4, V-E5: the no-op comes before every check. -/
theorem test_numeric_checks : rejects (execNumeric false (idle [500, 0, 1, 2, 0, 10, 1])) .none = true ∧
    rejects (execNumeric false (idle [500, 0, 1, 2, 1, 10, 1])) .unsupportedGlyphSize = true := by decide

/-- V-N1 to V-N7. V-N8 disagrees with R122, which this model follows (log entry 11). -/
theorem test_digits : digitCodes 42 4 = [0x20, 0x20, 0x34, 0x32] ∧ digitCodes 0 3 = [0x20, 0x20, 0x30] ∧
    digitCodes 1234 2 = [0x33, 0x34] ∧ digitCodes 105 4 = [0x20, 0x31, 0x30, 0x35] ∧ digitCodes 7 1 = [0x37] ∧
    digitCodes 4294967295 12 = [0x20, 0x20, 0x34, 0x32, 0x39, 0x34, 0x39, 0x36, 0x37, 0x32, 0x39, 0x35] ∧
    digitCodes 0 1 = [0x30] := by decide +kernel

/-- V-B1: little-endian pixels, sent high byte first. -/
theorem test_blit :
    let s := withBytes 0x2000 [0x00#8, 0xF8#8, 0xE0#8, 0x07#8, 0x1F#8, 0x00#8, 0xFF#8, 0xFF#8] (idle [5, 6, 2, 2, 0, 0, 0x2000])
    (after (execBlit s)).q =
      windowItems s 5 6 6 7 ++ [0xF800#16, 0x07E0#16, 0x001F#16, 0xFFFF#16].map pixelItem ++
        restoreItems s := by decide +kernel

/-- V-B3: the address wraps. -/
theorem test_blit_wraps :
    ((after (execBlit (withBytes 0xFFFFFFFF [0xCD#8, 0xAB#8] (idle [0, 0, 1, 1, 0, 0, 0xFFFF, 0xFFFF])))).q.drop 12).head? =
      some (.tx ⟨.data, [0xAB#8, 0xCD#8]⟩) := by decide +kernel

/-- V-F2, on a panel of 3 by 2: one bulk transaction. -/
theorem test_fillscr_bulk :
    let s := { smallPanel (idle [0x001F]) with bulkEn := true, grants := [true] }
    let t := after (execFillscr s)
    t.q = windowItems s 0 0 2 1 ++
        [.tx ⟨.data, [0x00#8, 0x1F#8, 0x00#8, 0x1F#8, 0x00#8, 0x1F#8, 0x00#8, 0x1F#8, 0x00#8, 0x1F#8, 0x00#8, 0x1F#8]⟩] ++
        windowItems s 0 0 2 1 ∧
      t.fallback = false := by decide +kernel

/-- V-F3, on a panel of 3 by 2: not granted, streamed with `FALLBACK`. -/
theorem test_fillscr_fallback :
    let s := { smallPanel (idle [0x001F]) with bulkEn := true, grants := [false] }
    let t := after (execFillscr s)
    t.q = windowItems s 0 0 2 1 ++ List.replicate 6 (.tx ⟨.data, [0x00#8, 0x1F#8]⟩) ++ windowItems s 0 0 2 1 ∧
      t.fallback = true ∧ t.statusWord = 0x05#32 := by decide +kernel

/-! ## The engine, the register port, reset -/

/-- V-ST1 to V-ST6. -/
theorem test_stall : stuck.statusWord = 0x01#32 ∧ (does (.hostWrite 0x00#7 0x31#32) stuck).statusWord = 0x09#32 ∧
    (does (.hostWrite 0x00#7 0x31#32) stuck).cmd = 0x10#32 ∧ (does (.hostWrite 0x18#7 100#32) stuck).panelW = 128#16 ∧
    (does (.hostWrite 0x60#7 9#32) stuck).args.a0 = 9#16 ∧ (does (.hostWrite 0x10#7 5#32) stuck).overrun = false ∧
    (does (.engine .ok) stuck).q = stuck.q := by decide +kernel

/-- V-RS1. -/
theorem test_reset : (does (.reset none) stuck).statusWord = 0#32 ∧ (does (.reset none) stuck).cmd = 0#32 ∧
    (does (.reset none) stuck).args = regs [] ∧ (does (.reset none) stuck).trace = [.broken ⟨.command, [0x2A#8]⟩ 0] :=
  by decide +kernel

/-- V-TF2: a fault at the first transaction. -/
theorem test_fault :
    let t := does (.engine (.fault 0)) { busy with winv := true }
    t.statusWord = 0x10#32 ∧ t.q = [] ∧ t.phase = .idle ∧ t.trace = [.broken ⟨.command, [0x2A#8]⟩ 0] := by decide +kernel

/-- V-PW1, V-PW2, V-PW3: the limits of a panel dimension. -/
theorem test_panel_width : ([0#32, 257#32, 0x00010080#32, 256#32, 1#32].map fun v =>
    (does (.hostWrite 0x18#7 v) (idle [])).panelW) = [128#16, 128#16, 128#16, 256#16, 1#16] := by decide +kernel

/-- V-UM1, V-UM2. -/
theorem test_offsets : (does (.hostRead 0x58#7) busy).readData = 0#32 ∧
    (does (.hostRead 0x07#7) busy).readData = 1#32 := by decide +kernel

/-- V-W5: the panel's pointer wraps to the window's origin. -/
theorem test_panel_wraps :
    let p := State.reset.panelParams
    let o := Panel.observe p (Panel.initial p)
      (((txsOf (windowItems State.reset 0 0 1 0)) ++ [Tx.data16 1#16, Tx.data16 2#16, Tx.data16 3#16]).map .carried)
    o.pixel 0 0 = some 3#16 ∧ o.pixel 1 0 = some 2#16 ∧ o.tainted = false := by decide +kernel

/-- R52: select low, the level of the select line, bit 7 first, each bit driven before the clock rises, select high. -/
theorem test_wire : wireOf .command [0b10000011#8] =
    [.selectLow, .dcLevel .command, .dataLevel true, .clockRise, .clockFall, .dataLevel false, .clockRise, .clockFall,
      .dataLevel false, .clockRise, .clockFall, .dataLevel false, .clockRise, .clockFall, .dataLevel false, .clockRise,
      .clockFall, .dataLevel false, .clockRise, .clockFall, .dataLevel true, .clockRise, .clockFall, .dataLevel true,
      .clockRise, .clockFall, .selectHigh] := by decide

/-- R144: the first and the last offset of the block, and its two neighbours, which do not reach the core. -/
theorem test_host_bus : hostMoves 0x4000
    [.read 0x3FFF, .write 0x4000 0x31#32, .read 0x407F, .write 0x4080 0#32] =
    [.hostWrite 0x00#7 0x31#32, .hostRead 0x7F#7] := by decide

/-- R63, R64 (log entry 10): a window one row too low writes nothing, taints, and the pointer advances in it. -/
theorem test_panel_improper :
    let p := State.reset.panelParams
    let o := Panel.observe p (Panel.initial p)
      (((txsOf (windowItems State.reset 0 0 5 160)) ++ [Tx.data16 1#16, Tx.data16 2#16]).map .carried)
    o.writes = [] ∧ o.tainted = true ∧ o.pointer = some (2, 0) := by decide +kernel

/-- R68: `Pixels(S)` lists a pixel that is written twice once. -/
theorem test_panel_pixels : panelPixels State.reset.panelParams
    ((txsOf (windowItems State.reset 0 0 1 0)) ++ [Tx.data16 1#16, Tx.data16 2#16, Tx.data16 3#16]) =
      [(0, 0), (1, 0)] := by decide +kernel

/-- R82: the accesses of `LINE 0, 0, 4, 1, 0xFFFF`. -/
theorem test_command_line : commandAccesses ⟨.line, [0, 0, 4, 1, 0xFFFF]⟩ =
    [.hostWrite 0x60#7 0#32, .hostWrite 0x64#7 0#32, .hostWrite 0x68#7 4#32, .hostWrite 0x6C#7 1#32,
      .hostWrite 0x70#7 0xFFFF#32, .hostWrite 0x00#7 0x11#32] := by decide

/-! ## Witnesses: concrete states and operands that meet the hypotheses of the obligations -/

theorem step_does (e : Event) (s : State) : step (facing e s) = .next (does e s) := by
  obtain ⟨t, h⟩ := step_answers_next (facing e s)
  simp only [does, h, after]

theorem exec_after (i : Instr) (s : State) : exec i s = .next (after (exec i s)) := by
  rw [exec_eq_issue]; rfl

/-- A point off the screen by one column. -/
def offScreen : State := idle [128, 159, 0]

theorem witness_EncodeAndDecodeAreInverse : decode 0x222#32 = .ok (.textctr true) := by decide

theorem witness_IllegalWordsOnlyReport :
    (facing (.hostWrite 0x03#7 0x400#32) (idle [])).agenda = .hostWrite 0x03#7 0x400#32 :: [] ∧
    (0x03#7).toNat / 4 = 0 ∧ (facing (.hostWrite 0x03#7 0x400#32) (idle [])).phase = .idle ∧
    decode? 0x400#32 = none ∧ decode? 0x100#32 = none ∧ decode? 0x210#32 = none ∧ decode? 0x32#32 = none := by
  decide +kernel

theorem witness_StepRunsTheDecodedCommand :
    (facing (.hostWrite 0x00#7 0x10#32) busy).agenda = .hostWrite 0x00#7 0x10#32 :: [] ∧ (0x00#7).toNat / 4 = 0 ∧
    decode 0x10#32 = .ok .point ∧ decodeTableWord 32 0x10 = some .point := by decide +kernel

theorem witness_HostReadReturnsTheRegister :
    (facing (.hostRead 0x53#7) busy).agenda = .hostRead 0x53#7 :: [] ∧ (0x53#7).toNat / 4 = 20 ∧
    (does (.hostRead 0x53#7) { busy with winYe := 7#8 }).readData = 7#32 ∧
    (0x7F#7).toNat / 4 = 24 + (7 : Fin 8).val ∧
    (does (.hostRead 0x7F#7) (idle [0, 0, 0, 0, 0, 0, 0, 9])).readData = 9#32 ∧
    (does (.hostRead 0x10#7) { busy with orient := 1#2 }).readData = 160#32 := by decide +kernel

theorem witness_ReservedOffsetsReadZeroIgnoreWrites :
    0x54 ≤ (0x54#7).toNat ∧ (0x5F#7).toNat ≤ 0x5F ∧
    (facing (.hostRead 0x54#7) busy).agenda = .hostRead 0x54#7 :: [] ∧
    (facing (.hostWrite 0x5F#7 1#32) busy).agenda = .hostWrite 0x5F#7 1#32 :: [] ∧
    (does (.hostWrite 0x5F#7 1#32) busy).overrun = false := by decide +kernel

theorem witness_GuardedWritesWhileBusyAreDropped :
    (facing (.hostWrite 0x43#7 1#32) busy).agenda = .hostWrite 0x43#7 1#32 :: [] ∧ busy.phase = .busy ∧
    (0x43#7).toNat / 4 ∈ [0, 2, 6, 7, 8, 9, 10, 11, 12, 13, 14, 15, 16] ∧
    (0x60#7).toNat / 4 = 24 + (0 : Fin 8).val ∧ (0x04#7).toNat / 4 = 1 ∧
    (0x44#7).toNat / 4 ∈ [3, 4, 5, 17, 18, 19, 20] := by decide +kernel

theorem witness_ConfigurationWritesWhileIdleAreStored :
    (facing (.hostWrite 0x40#7 0x1FF#32) (idle [])).agenda = .hostWrite 0x40#7 0x1FF#32 :: [] ∧
    (idle []).phase = .idle ∧ (0x40#7).toNat / 4 = 16 ∧ (0x08#7).toNat / 4 = 2 ∧
    (does (.hostWrite 0x40#7 0x1FF#32) (idle [])).madctl3 = 0xFF#8 := by decide +kernel

theorem witness_PanelDimensionWrites :
    (facing (.hostWrite 0x1C#7 256#32) (idle [])).agenda = .hostWrite 0x1C#7 256#32 :: [] ∧
    (0x1C#7).toNat / 4 ∈ [6, 7] ∧ busy.phase = .busy ∧ (idle []).phase = .idle ∧
    ((65536#32 : Word).extractLsb' 0 16 = 0#16) ∧ 256 < ((257#32 : Word).extractLsb' 0 16).toNat ∧
    1 ≤ ((1#32 : Word).extractLsb' 0 16).toNat ∧ ((256#32 : Word).extractLsb' 0 16).toNat ≤ 256 := by decide +kernel

theorem witness_StatusFieldsAndWrite :
    (facing (.hostWrite 0x04#7 0x08#32) stuck).agenda = .hostWrite 0x04#7 0x08#32 :: [] ∧ (0x04#7).toNat / 4 = 1 ∧
    (0x08#32 : Word).getLsbD 3 = true ∧ (0xF7#32 : Word).getLsbD 3 = false := by decide +kernel

theorem witness_OverrunIsSticky :
    step (facing (.hostWrite 0x00#7 0#32) busy) = .next (does (.hostWrite 0x00#7 0#32) busy) ∧
    step (facing (.hostWrite 0x04#7 8#32) { busy with overrun := true }) =
      .next (does (.hostWrite 0x04#7 8#32) { busy with overrun := true }) ∧
    (facing (.hostWrite 0x00#7 0#32) busy).overrun = false ∧ (does (.hostWrite 0x00#7 0#32) busy).overrun = true ∧
    (does (.hostWrite 0x04#7 8#32) { busy with overrun := true }).overrun = false :=
  ⟨step_does _ _, step_does _ _, by decide +kernel⟩

/-- The engine about to perform the orientation mark of `SETORIENT 1`. -/
def turning : State := { after (execSetorient (idle [1])) with q := [.mark (.setOrient 1#2)], performed := 3 }

theorem witness_OrientationChangesOnlyBySetorient :
    step (facing (.engine .ok) turning) = .next (does (.engine .ok) turning) ∧
    (does (.engine .ok) turning).orient ≠ (facing (.engine .ok) turning).orient ∧
    Mark.setOrient 1#2 ∈
      marksOf (expandOf .setorient ⟨turning.latch, turning.mem, turning.rom, turning.seenGrant⟩).list :=
  ⟨step_does _ _, by decide +kernel⟩

/-- The engine about to show the window it has programmed. -/
def showing : State := { busy with q := [.mark (.winShadow 3#8 4#8 3#8 4#8)] }

theorem witness_WindowValidityChanges :
    step (facing (.engine .ok) showing) = .next (does (.engine .ok) showing) ∧
    step (facing (.engine (.fault 1)) { busy with winv := true }) =
      .next (does (.engine (.fault 1)) { busy with winv := true }) ∧
    showing.winv = false ∧ (does (.engine .ok) showing).winv = true ∧
    (does (.engine (.fault 1)) { busy with winv := true }).winv = false ∧
    Mark.winInvalid ∈ marksOf (expandOf .wrcmd ⟨busy.latch, [], busy.rom, false⟩).list :=
  ⟨step_does _ _, step_does _ _, by decide +kernel⟩

/-- The other clauses of `WindowValidityChanges`: a `WinShadow` mark, a `WinInvalid` mark and a transaction at the head,
a reset, and both sides of the direction limit of `SETORIENT`. -/
theorem witness_WindowValidityChanges_clauses :
    (facing (.engine .noAnswer) showing).agenda = .engine .noAnswer :: [] ∧ showing.phase = .busy ∧
    showing.stalled = false ∧ showing.q = .mark (.winShadow 3#8 4#8 3#8 4#8) :: [] ∧
    (let s := { after (execWrcmd (idle [0x2A])) with winv := true }
     s.phase = .busy ∧ s.stalled = false ∧ s.q = .mark .winInvalid :: [.tx ⟨.command, [0x2A#8]⟩] ∧
       (does (.engine (.fault 0)) s).winv = false) ∧
    busy.phase = .busy ∧ busy.stalled = false ∧ busy.q = .tx ⟨.command, [0x2A#8]⟩ :: busy.q.tail ∧
    (facing (.reset none) { busy with winv := true }).agenda = .reset none :: [] ∧
    (does (.reset none) { busy with winv := true }).winv = false ∧
    ((idle [3]).args.get 0).toNat ≤ 3 ∧ ¬((idle [4]).args.get 0).toNat ≤ 3 := by decide +kernel

theorem witness_OnlyTheHostWritesItsRegisters :
    step (facing (.hostWrite 0x64#7 5#32) busy) = .next (does (.hostWrite 0x64#7 5#32) busy) ∧
    step (facing (.hostWrite 0x24#7 5#32) (idle [])) = .next (does (.hostWrite 0x24#7 5#32) (idle [])) ∧
    (does (.hostWrite 0x64#7 5#32) busy).args.get 1 ≠ busy.args.get 1 ∧
    (does (.hostWrite 0x24#7 5#32) (idle [])).opcCaset ≠ (idle []).opcCaset :=
  ⟨step_does _ _, step_does _ _, by decide +kernel⟩

theorem witness_SourceMemoryAndRomAreReadOnly :
    step (facing (.memWrite 0xFFFFFFFF#32 7#8) busy) = .next (does (.memWrite 0xFFFFFFFF#32 7#8) busy) ∧
    Memory.wf busy.mem = true ∧
    Memory.readByte (does (.memWrite 0xFFFFFFFF#32 7#8) busy).mem 0xFFFFFFFF = 7#8 :=
  ⟨step_does _ _, by decide +kernel⟩

/-- Two whole glyph tables, the byte at index `i` being `i mod 256`: the first byte of the first glyph and the last of
the last one, in each. -/
theorem witness_SourceMemoryAndRomAreReadOnly_rom :
    let t12 := (List.range (95 * 12)).map (BitVec.ofNat 8)
    let t16 := (List.range (95 * 16)).map (BitVec.ofNat 8)
    t12.length = 95 * 12 ∧ t16.length = 95 * 16 ∧ (romOf t12 t16).byte 12 0x20 0 = 0#8 ∧
      (romOf t12 t16).byte 16 0x20 0 = 0#8 ∧ (romOf t12 t16).byte 12 0x7E 11 = 1139#8 ∧
      (romOf t12 t16).byte 16 0x7E 15 = 1519#8 ∧ (romOf t12 t16).byte 12 0x41 3 = 399#8 := by decide +kernel

theorem witness_AcceptLatchesAndExpands : (idle [3, 4, 1]).phase = .idle ∧
    ({ idle [] with grants := [true] } : State).grants = true :: [] := by decide

theorem witness_CmdWriteIssuesOrIsDropped :
    (facing (.hostWrite 0x02#7 0x31#32) busy).agenda = .hostWrite 0x02#7 0x31#32 :: [] ∧ (0x02#7).toNat / 4 = 0 ∧
    busy.phase = .busy ∧ (idle []).phase = .idle ∧
    (facing (.hostRead 0x01#7) busy).agenda = .hostRead 0x01#7 :: [] ∧ (0x01#7).toNat / 4 = 0 := by decide +kernel

theorem witness_IssuingACommandFrame : exec .point (idle [3, 4, 0x07E0]) = .next busy ∧
    (idle [3, 4, 0x07E0]).phase = .idle ∧ exec .fillscr busy = .next (after (exec .fillscr busy)) ∧
    busy.phase = .busy :=
  ⟨exec_after _ _, by decide, exec_after _ _, by decide +kernel⟩

theorem witness_NopCompletes : ({ idle [] with err := .illegalCommand } : State).phase = .idle := by decide

theorem witness_TransportCommandsStart : (idle [0x12FF]).phase = .idle := by decide

theorem witness_SetwinStartsOrRejects : (idle []).phase = .idle ∧ windowRow .setwin (idle [127, 159, 127, 159]) 0 = true ∧
    windowRow .setwin (idle [0, 0, 128, 0]) 0 = false ∧ windowRow .setwin (idle [0, 0, 0, 160]) 0 = false := by decide

theorem witness_SetorientTurnsTheDisplay : (idle [3]).phase = .idle ∧ (idle [3]).stalled = false ∧
    (idle [3]).args.a0.toNat ≤ 3 ∧ (idle [4]).args.a0.toNat > 3 ∧
    (let s := { idle [3] with agenda := List.replicate 4 (.engine .ok) }
     (after (exec .setorient s)).agenda = List.replicate 4 (.engine .ok) ∧
       exec .setorient s = .next (after (exec .setorient s))) :=
  ⟨by decide, by decide, by decide, by decide, by decide +kernel, exec_after _ _⟩

theorem witness_PointStartsOrRejects : (idle []).phase = .idle ∧ windowRow .point (idle [127, 159]) 0 = true ∧
    windowRow .point offScreen 0 = false ∧ windowRow .point (idle [0, 160]) 0 = false := by decide

theorem witness_LineFollowsTheClosedForm : (idle []).phase = .idle ∧
    windowRow .line (idle [127, 159, 0, 0]) 0 = true ∧ windowRow .line (idle [0, 0, 128, 0]) 0 = false := by decide

theorem witness_RectOutlineIsFourLines : (idle []).phase = .idle ∧
    windowRow .rect (idle [7, 7, 7, 7]) 0 = true ∧ windowRow .rect (idle [3, 0, 2, 2]) 0 = false := by decide

theorem witness_RectfFloodsTheWindow : (idle []).phase = .idle ∧
    windowRow .rectf (idle [0, 0, 127, 159]) 0 = true ∧ windowRow .rectf (idle [0, 0, 127, 160]) 0 = false := by decide

theorem witness_CircleOutlineFollowsTheRecurrence : (idle []).phase = .idle ∧
    windowRow .circle (idle [125, 20, 2]) 0 = true ∧ windowRow .circle (idle [0, 0, 0]) 0 = true ∧
    windowRow .circle (idle [125, 20, 3]) 0 = false := by decide

theorem witness_CircleFillSweepsEachStep : (idle []).phase = .idle ∧
    windowRow .circlef (idle [20, 157, 2]) 0 = true ∧ windowRow .circlef (idle [1, 5, 2]) 0 = false := by decide

theorem witness_TriangleOutlineIsThreeLines : (idle []).phase = .idle ∧
    windowRow .tri (idle [0, 0, 127, 159, 5, 5]) 0 = true ∧ windowRow .tri (idle [0, 0, 0, 160, 1, 1]) 0 = false := by
  decide

theorem witness_TriangleFillIsOneSpanARow : (idle []).phase = .idle ∧
    windowRow .trif (idle [0, 0, 2, 4, 5, 2]) 0 = true ∧ windowRow .trif (idle [0, 0, 0, 200, 1, 1]) 0 = false := by
  decide

theorem witness_TextcharRendersOneGlyph : (idle []).phase = .idle ∧ ¬(10 = 12 ∨ 10 = 16) ∧
    (let s := idle [122, 148, 1, 2, 0x20, 12]
     s.args.a5.toNat = 12 ∧ 0x20 ≤ s.args.a4.toNat ∧ s.args.a4.toNat ≤ 0x7E ∧
       windowRow (.textchar false) s 1 = true ∧ windowRow (.textchar true) s 1 = true) ∧
    windowRow (.textchar false) (idle [123, 0, 1, 2, 0x7E, 12]) 1 = false ∧
    ¬(0x20 ≤ (idle [0, 0, 1, 2, 0x7F, 12]).args.a4.toNat ∧ (idle [0, 0, 1, 2, 0x7F, 12]).args.a4.toNat ≤ 0x7E) := by
  decide

theorem witness_TextstrRendersPrintableBytes : (idle []).phase = .idle ∧
    (idle [0, 0, 1, 2, 0, 10]).args.a5.toNat = 10 ∧
    (let s := withBytes 0 [0x41#8, 0x7F#8] (idle [122, 148, 1, 2, 2, 12])
     s.args.a5.toNat = 12 ∧ stringCodes s = [0x41] ∧ windowRow (.textstr true) s 1 = true) ∧
    (let s := withBytes 0 [0x41#8, 0x7E#8] (idle [122, 148, 1, 2, 2, 12])
     stringCodes s = [0x41, 0x7E] ∧ windowRow (.textstr false) s 2 = false) ∧
    stringCodes (withBytes 0 [0x1F#8] (idle [0, 0, 1, 2, 1, 12])) = [] := by decide +kernel

theorem witness_TextctrCentresPrintableBytes : (idle []).phase = .idle ∧
    (let s := withBytes 0 (List.replicate 16 0x41#8) (idle [0, 0, 1, 2, 16, 16])
     s.args.a5.toNat = 16 ∧ (stringCodes s).length = 16 ∧ windowRow (.textctr false) s 16 = true ∧
       windowRow (.textctr false) s 17 = false) ∧
    stringCodes (idle [0, 0, 1, 2, 5, 12]) = [] := by decide +kernel

theorem witness_NumericRendersAFixedField : (idle []).phase = .idle ∧ (idle [500, 0, 1, 2, 0, 10]).args.a4.toNat = 0 ∧
    (idle [0, 0, 1, 2, 16, 16]).args.a4.toNat ≠ 0 ∧ (idle [0, 0, 1, 2, 16, 16]).args.a5.toNat = 16 ∧
    windowRow (.numeric true) (idle [0, 0, 1, 2, 16, 16]) 16 = true ∧
    windowRow (.numeric false) (idle [0, 0, 1, 2, 17, 16]) 17 = false := by decide

theorem witness_DigitsShowTheValue : 1 ≤ 12 ∧ shownValue (digitCodes 105 4) = 105 % 10 ^ 4 := by decide +kernel

theorem witness_BlitStreamsTheRaster : (idle []).phase = .idle ∧
    windowRow .blit (idle [126, 0, 2, 1, 0, 0, 0xFFFF, 0xFFFF]) 0 = true ∧ windowRow .blit (idle [0, 0, 0, 4]) 0 = false ∧
    windowRow .blit (idle [120, 0, 9, 1]) 0 = false := by decide

theorem witness_FillscrFillsTheScreen : (idle []).phase = .idle ∧ (idle []).bulkEn = false ∧
    ({ idle [] with bulkEn := true, grants := [true] } : State).bulkGrant = true ∧
    ({ idle [] with bulkEn := true, grants := [false] } : State).bulkGrant = false := by decide

theorem witness_ExpansionReadsOnlyItsOperands :
    ∀ r ∈ Instr.textctr true |>.argRegs, (regs [7, 7, 2, 3, 4, 5, 6, 8]).get r = (regs [0, 1, 2, 3, 4, 5, 6, 8]).get r := by
  decide

theorem witness_OnlyNamedCommandsReadMemoryRomGrant : (∀ ov, Instr.point ≠ .textstr ov) ∧
    (∀ ov, Instr.point ≠ .textctr ov) ∧ (∀ ov, Instr.point ≠ .textchar ov) ∧ (∀ ov, Instr.point ≠ .numeric ov) ∧
    Instr.point ≠ .blit ∧ Instr.point ≠ .fillscr := by decide

theorem witness_EngineStepPerformsTheHeadItem :
    (facing (.engine .ok) busy).agenda = .engine .ok :: [] ∧ busy.phase = .busy ∧ busy.stalled = false ∧
    busy.q = .tx ⟨.command, [0x2A#8]⟩ :: busy.q.tail ∧
    showing.q = .mark (.winShadow 3#8 4#8 3#8 4#8) :: [] ∧ showing.phase = .busy ∧ showing.stalled = false ∧
    turning.q = .mark (.setOrient 1#2) :: [] ∧ turning.phase = .busy ∧ turning.stalled = false ∧
    (after (execWrcmd (idle [0x2A]))).q = .mark .winInvalid :: [.tx ⟨.command, [0x2A#8]⟩] := by decide +kernel

theorem witness_TransportFaultAbandonsTheCommand :
    (facing (.engine (.fault 1)) busy).agenda = .engine (.fault 1) :: [] ∧ busy.phase = .busy ∧ busy.stalled = false ∧
    busy.q = .tx ⟨.command, [0x2A#8]⟩ :: busy.q.tail ∧ 1 ≤ (Tx.mk .command [0x2A#8]).bytes.length := by decide +kernel

theorem witness_StallLastsUntilReset :
    (facing (.hostWrite 0x00#7 0x31#32) stuck).phase = .busy ∧
    (facing (.hostWrite 0x00#7 0x31#32) stuck).stalled = true ∧
    (∀ cut, Event.reset cut ∉ (facing (.hostWrite 0x00#7 0x31#32) stuck).agenda) ∧
    (facing (.reset none) stuck).agenda = .reset none :: [] :=
  ⟨by decide +kernel, by decide +kernel, fun cut => by simp [facing], rfl⟩

theorem witness_ResetPutsTheCoreInItsResetState :
    (facing (.reset (some 1)) busy).agenda = .reset (some 1) :: [] ∧ busy.phase = .busy ∧
    busy.q = .tx ⟨.command, [0x2A#8]⟩ :: busy.q.tail ∧ 1 ≤ (Tx.mk .command [0x2A#8]).bytes.length ∧
    (idle []).phase = .idle ∧ busy.stalled = false ∧ stuck.phase = .busy ∧ stuck.stalled = true ∧
    stuck.q = .tx ⟨.command, [0x2A#8]⟩ :: stuck.q.tail := by decide +kernel

/-- A panel dimension of a small panel is legal. -/
theorem dimOk_of_small : dimOk 3#16 ∧ dimOk 2#16 := by unfold dimOk; decide

/-- The engine of a small panel runs `WRDATA8 0x34`. -/
def sending : State := after (execWrdata8 (smallPanel (idle [0x34])))

/-- The running command of `s` is `i`, and `s` has the invariant of a busy state. -/
def runs (i : Instr) (s : State) : Bool :=
  s.phase == .busy && !s.stalled && Memory.wf s.mem && Memory.wf s.seenMem && s.q != [] && s.err == .none &&
    s.latch.word == s.cmd && decide (decode s.cmd = .ok i) &&
    [s.panelW, s.panelH, s.latch.cfg.width, s.latch.cfg.height].all (fun v =>
      decide (1 ≤ v.toNat) && decide (v.toNat ≤ 256)) &&
    (expandOf i (s.runningView s.seenMem) ==
      .items (expandOf i (s.runningView s.seenMem)).list s.fallback s.bulk) &&
    s.q == (expandOf i (s.runningView s.seenMem)).list.drop s.performed

theorem inv_of_runs {i : Instr} {s : State} (h : runs i s = true) : s.Inv := by
  simp only [runs, Bool.and_eq_true, beq_iff_eq, bne_iff_ne, Bool.not_eq_true', decide_eq_true_eq, List.all_cons,
    List.all_nil, and_true] at h
  obtain ⟨⟨⟨⟨⟨⟨⟨⟨⟨⟨hp, hs⟩, hm⟩, hsm⟩, hq⟩, he⟩, hl⟩, hd⟩, hw, hh, hlw, hlh⟩, hx⟩, hr⟩ := h
  exact ⟨hw, hh, hm, hsm, fun h' => by simp [hp] at h',
    fun _ => ⟨hq, he, hl, hlw, hlh, i, _, hd, hx, hr⟩, fun h' => by simp [hs] at h'⟩

theorem sending_inv : sending.Inv := inv_of_runs (i := .wrdata8) (by decide +kernel)

theorem resetArgs_inv : (smallPanel (idle [1, 1, 9])).Inv where
  panelW := by unfold dimOk; decide
  panelH := by unfold dimOk; decide
  mem := by decide
  seenMem := by decide
  idle := fun _ => ⟨by decide, by decide, by decide⟩
  busy := fun h => absurd h (by decide)
  stalled := fun h => absurd h (by decide)

theorem witness_EngineRunsTheExpansionToItsEnd :
    let s : State := { sending with agenda := [.engine .ok] }
    s.Inv ∧ s.phase = .busy ∧ s.stalled = false ∧ s.agenda = List.replicate s.q.length (.engine .ok) ++ [] :=
  ⟨inv_of_runs (i := .wrdata8) (by decide +kernel), by decide +kernel, by decide +kernel, by decide +kernel⟩

/-- `POINT 1, 1, 9` to come on a small panel, with a bus that answers `Ok` to all of it. -/
def drawing : State := { smallPanel (idle [1, 1, 9]) with agenda := List.replicate 25 (.engine .ok) }

theorem drawing_inv : drawing.Inv where
  panelW := resetArgs_inv.panelW
  panelH := resetArgs_inv.panelH
  mem := resetArgs_inv.mem
  seenMem := resetArgs_inv.seenMem
  idle := resetArgs_inv.idle
  busy := resetArgs_inv.busy
  stalled := resetArgs_inv.stalled

theorem witness_DrawingEndsWithTheFullScreenWindow :
    drawing.Inv ∧ drawing.phase = .idle ∧ isDrawing .point = true ∧
    exec .point drawing = .next (after (exec .point drawing)) ∧ (after (exec .point drawing)).phase = .busy ∧
    (after (exec .point drawing)).agenda =
      List.replicate (after (exec .point drawing)).q.length (.engine .ok) ++ [] :=
  ⟨drawing_inv, by decide +kernel, by decide +kernel, exec_after _ _, by decide +kernel, by decide +kernel⟩

theorem witness_EveryStepKeepsTheInvariant : sending.Inv ∧ drawing.Inv := ⟨sending_inv, drawing_inv⟩

theorem witness_EveryProgrammedWindowIsOnScreen :
    dimOk 1#16 ∧ dimOk 256#16 ∧
    marksOf (expandOf .point ⟨busy.latch, [], busy.rom, false⟩).list =
      [.winShadow 3#8 4#8 3#8 4#8, .winShadow 0#8 0#8 127#8 159#8] := by
  unfold dimOk; decide +kernel

theorem witness_ValidShadowStaysAWindow :
    (facing (.engine .ok) { sending with winv := true, winXe := 2#8 }).Inv ∧
    (facing (.engine .ok) { sending with winv := true, winXe := 2#8 }).shadowOrdered ∧
    step (facing (.engine .ok) { sending with winv := true, winXe := 2#8 }) =
      .next (does (.engine .ok) { sending with winv := true, winXe := 2#8 }) :=
  ⟨inv_of_runs (i := .wrdata8) (by decide +kernel), fun _ => by decide +kernel, step_does _ _⟩

/-- The engine runs `TEXTSTR` of the string `A`, 0x01, `B` at column 116, where two glyphs of 12 rows fit and three do
not. -/
def writing : State :=
  after (execTextstr false (withFont [0x41, 0x42]
    (withBytes 5 [0x41#8, 0x01#8, 0x42#8] (idle [116, 0, 0xFFFF, 0, 3, 12, 5]))))

/-- `writing` after some answers and platform writes, about to read some of the bytes late. -/
def late (n : Nat) (wrote read : List RacingByte) : State :=
  facing (.lateRead read)
    (wrote.foldl (fun s b => does (.memWrite b.addr b.value) s)
      ((List.replicate n (Event.engine .ok)).foldl (fun s e => does e s) writing))

/-- The states of the clauses: a blanked byte (agrees), all bytes blanked with nothing performed (completes) and with
items performed (does not agree), a third printable byte (an error of `Expand`), a byte that no one wrote. -/
theorem witness_RacingWriteChangesOnlyTheRest :
    let noB : List RacingByte := [⟨7#32, 0x0A#8⟩]
    let none : List RacingByte := [⟨5#32, 0x0A#8⟩, ⟨7#32, 0x0A#8⟩]
    let three : List RacingByte := [⟨6#32, 0x42#8⟩]
    (late 3 noB noB).Inv ∧ (late 0 none none).Inv ∧ (late 3 none none).Inv ∧ (late 0 three three).Inv ∧
    (late 3 three three).Inv ∧ (late 3 [] noB).Inv ∧ decode writing.cmd = .ok (.textstr false) ∧
    (late 3 noB noB).agenda = .lateRead noB :: [] ∧ (late 3 noB noB).stalled = false ∧
    (∀ b ∈ none, b ∈ (late 0 none none).racing) ∧ (late 3 noB noB).performed = 3 :=
  ⟨inv_of_runs (i := .textstr false) (by decide +kernel), inv_of_runs (i := .textstr false) (by decide +kernel),
    inv_of_runs (i := .textstr false) (by decide +kernel), inv_of_runs (i := .textstr false) (by decide +kernel),
    inv_of_runs (i := .textstr false) (by decide +kernel), inv_of_runs (i := .textstr false) (by decide +kernel),
    by decide +kernel⟩

/-- The clause of a command that reads no source memory, and the platform's write. -/
theorem witness_RacingWriteChangesOnlyTheRest_other :
    let s := facing (.lateRead [⟨5#32, 1#8⟩]) (does (.memWrite 5#32 1#8) sending)
    s.Inv ∧ s.agenda = .lateRead [⟨5#32, 1#8⟩] :: [] ∧ decode s.cmd = .ok .wrdata8 ∧ s.racing = [⟨5#32, 1#8⟩] ∧
      (facing (.memWrite 5#32 1#8) sending).agenda = .memWrite 5#32 1#8 :: [] :=
  ⟨inv_of_runs (i := .wrdata8) (by decide +kernel), by decide +kernel⟩

/-- R46: a `BLIT` of two equal pixels, of which the platform changes the second under it: read late, the new value is
sent; not read late, or already sent, the old one is. -/
theorem test_race :
    let s := withBytes 0 [0x11#8, 0x11#8, 0x22#8, 0x22#8] (idle [0, 0, 2, 1])
    let t := does (.memWrite 2#32 0x33#8) (after (execBlit s))
    let sent := (List.replicate 14 (Event.engine .ok)).foldl (fun s e => does e s) t
    t.q = (after (execBlit s)).q ∧
      ((does (.lateRead [⟨2#32, 0x33#8⟩]) t).q.drop 12).take 2 = [pixelItem 0x1111#16, pixelItem 0x2233#16] ∧
      (does (.lateRead [⟨2#32, 0x33#8⟩]) sent).q = sent.q := by decide +kernel

/-- R46, R134: the states of the witness above: the rest of one glyph, a completed command, the old rest, and the old rest
with no rejection where the mixture would not fit. -/
theorem test_race_text :
    let ends (n : Nat) (bs : List RacingByte) := after (step (late n bs bs))
    (ends 3 [⟨7#32, 0x0A#8⟩]).q.length = 12 + 72 + 12 - 3 ∧
      ((ends 0 [⟨5#32, 0x0A#8⟩, ⟨7#32, 0x0A#8⟩]).phase, (ends 0 [⟨5#32, 0x0A#8⟩, ⟨7#32, 0x0A#8⟩]).err) =
        (.idle, .none) ∧
      (ends 3 [⟨5#32, 0x0A#8⟩, ⟨7#32, 0x0A#8⟩]).q = writing.q.drop 3 ∧
      ((ends 0 [⟨6#32, 0x42#8⟩]).phase, (ends 0 [⟨6#32, 0x42#8⟩]).err) = (.busy, .none) ∧
      (ends 0 [⟨6#32, 0x42#8⟩]).q = writing.q ∧
      (ends 3 [⟨6#32, 0x42#8⟩]).q = writing.q.drop 3 := by decide +kernel

theorem witness_DiscCoversItsCircle : (0 : Int) ≤ 0 ∧ circlePoints 0 0 0 = [(0, 0)] ∧
    (22, 21) ∈ discPoints 20 20 2 ∧ ((18 : Int) - 20).natAbs ≤ ((22 : Int) - 20).natAbs := by decide +kernel

/-- How many transactions and bytes a command puts on the bus from `s`, and whether it emits anything. -/
def lengths (i : Instr) (s : State) : Nat × Nat × Bool :=
  let its := (expandOf i ⟨s.latchFor 0#32, s.mem, s.rom, s.bulkGrant⟩).list
  ((txsOf its).length, (wireBytes (txsOf its)).length, its != [])

/-- Two glyphs of the 12-row test font in memory, and operands for the text commands. -/
def texting (l : List Nat) : State := withFont [0x20, 0x37, 0x41, 0x42] (withBytes 5 [0x41#8, 0x0A#8, 0x42#8] (idle l))

/-- An expansion that is not empty for every command, with the counts of R159's table worked out by hand. -/
theorem witness_StreamLengths :
    lengths .wrcmd (idle [3]) = (1, 1, true) ∧ lengths .wrdata8 (idle [3]) = (1, 1, true) ∧
    lengths .wrdata16 (idle [3]) = (1, 2, true) ∧ lengths .setwin (idle [0, 0, 127, 159]) = (11, 11, true) ∧
    lengths .setorient (idle [3]) = (2, 2, true) ∧ lengths .point (idle [127, 159, 1]) = (23, 24, true) ∧
    lengths .line (idle [10, 3, 4, 7, 1]) = (95, 102, true) ∧ lengths .rect (idle [0, 0, 3, 2, 5]) = (179, 193, true) ∧
    lengths .rectf (idle [10, 10, 19, 14, 1]) = (72, 122, true) ∧
    lengths .circle (idle [20, 20, 2, 9]) = (155, 167, true) ∧
    lengths .circlef (idle [20, 20, 2, 9]) = (263, 284, true) ∧
    lengths .tri (idle [0, 0, 4, 0, 2, 3, 7]) = (167, 180, true) ∧
    lengths .trif (idle [0, 0, 2, 4, 5, 2, 7]) = (80, 94, true) ∧
    lengths .blit (idle [5, 6, 2, 2]) = (26, 30, true) := by decide +kernel

/-- The same for the text commands in both modes, and for `FILLSCR` on both paths. -/
theorem witness_StreamLengths_forms :
    lengths (.textchar false) (texting [0, 0, 1, 2, 0x41, 12]) = (94, 166, true) ∧
    lengths (.textchar true) (texting [0, 0, 1, 2, 0x41, 12]) = (155, 167, true) ∧
    lengths (.textstr false) (texting [0, 0, 1, 2, 3, 12, 5]) = (177, 321, true) ∧
    lengths (.textstr true) (texting [0, 0, 1, 2, 3, 12, 5]) = (299, 323, true) ∧
    lengths (.textctr false) (texting [0, 0, 1, 2, 3, 12, 5]) = (177, 321, true) ∧
    lengths (.textctr true) (texting [0, 0, 1, 2, 3, 12, 5]) = (299, 323, true) ∧
    lengths (.numeric false) (texting [0, 0, 1, 2, 3, 12, 7]) = (260, 476, true) ∧
    lengths (.numeric true) (texting [0, 0, 1, 2, 3, 12, 7]) = (155, 167, true) ∧
    lengths .fillscr (smallPanel (idle [1])) = (28, 34, true) ∧
    lengths .fillscr { smallPanel (idle [1]) with bulkEn := true, grants := [true] } = (23, 34, true) := by
  decide +kernel

/-- The latched configuration of the reset state. -/
def cfg : LatchedCfg := (State.reset.latchFor 0#32).cfg

theorem witness_WindowStreamFillsRowMajor :
    let p := State.reset.panelParams
    let o := Panel.initial p
    p.caset = cfg.caset ∧ p.raset = cfg.raset ∧ p.ramwr = cfg.ramwr ∧ cfg.raset ≠ cfg.caset ∧ cfg.ramwr ≠ cfg.caset ∧
      cfg.ramwr ≠ cfg.raset ∧ cfg.ramwr ≠ p.madctl ∧ o.width ≤ 256 ∧ o.height ≤ 256 ∧ 0 ≤ 127 ∧ 127 < o.width ∧
      159 ≤ 159 ∧ 159 < o.height := by decide +kernel

theorem witness_CommandLineLoadsOperandsThenIssues :
    let c : CommandLine := ⟨.blit, [5, 6, 2, 2, 0xFFFFFFFF]⟩
    let s : State := { idle [] with agenda := commandAccesses c ++ [.engine .ok] }
    c.wellFormed = true ∧ s.phase = .idle ∧ s.agenda = commandAccesses c ++ [.engine .ok] := by decide +kernel

/-- Where a host's run has come to. -/
def reached (o : Host.Outcome HostRun Fault Refusal) : Option HostRun :=
  match o with
  | .next r => some r
  | .fault _ => none
  | .refused _ => none

theorem eq_next_of_reached {o : Host.Outcome HostRun Fault Refusal} {r : HostRun} (h : reached o = some r) :
    o = .next r := by
  cases o with
  | next t => simpa [reached] using h
  | fault f => simp [reached] at h
  | refused x => simp [reached] at h

/-- The engine with one item left to perform. -/
def ending : State := { busy with q := [.tx ⟨.data, [7#8]⟩], seenGrant := false }

/-- The run of the `WAIT` clause: the host polls before and after the last item is done. -/
theorem witness_CommandLineLoadsOperandsThenIssues_wait :
    let rest := HostLine.ops (.command ⟨.nop, []⟩)
    let done : State :=
      { ending with q := [], phase := .idle, performed := 1, trace := [.carried ⟨.data, [7#8]⟩], readData := 0#32 }
    HostRun.turns ⟨ending, HostLine.wait.ops ++ rest⟩ [.host, .other (.engine .ok), .host] = .next ⟨done, rest⟩ ∧
      rest = [.write 0x00#7 0#32] :=
  ⟨eq_next_of_reached (by decide +kernel), by decide⟩

/-- R82: while the core is busy `WAIT` stays where it is. -/
theorem test_wait_busy :
    reached (HostRun.turns ⟨ending, programOps [.wait, .rd .orient]⟩ [.host, .other (.engine .noAnswer), .host]) =
      some ⟨{ ending with stalled := true, readData := 1#32 }, [.poll, .read 0x0C#7]⟩ := by decide +kernel

/-- R65 (log entry 10): a byte of no table entry taints and turns nothing. -/
theorem test_panel_foreign_orientation :
    let p := State.reset.panelParams
    let o := Panel.observe p (Panel.initial p) [.carried ⟨.command, [0x36#8]⟩, .carried ⟨.data, [0x20#8]⟩]
    o.tainted = true ∧ (o.width, o.height, o.orient) = (128, 160, 0#2) := by decide +kernel

end Sys2Proof.Tests
end

section
/-! Proofs of family `00_scope`: what no move of any agent writes (R5, R44, R47, R48), and where a byte of the glyph
ROM stands in its table (R49). -/

namespace Sys2Proof.Machine

/-! ## The stores the core only reads -/

/-- `t` holds the source memory (R44), the glyph ROM (R48) and the build parameter `MADCTL_RESET` (R31) of `s`. -/
structure State.SameStores (s t : State) : Prop where
  mem : t.mem = s.mem
  rom : t.rom = s.rom
  madctlReset : t.madctlReset = s.madctlReset

theorem State.SameStores.refl (s : State) : s.SameStores s := ⟨rfl, rfl, rfl⟩

theorem State.withAgenda_sameStores (s : State) (a : List Event) : s.SameStores (s.withAgenda a) := ⟨rfl, rfl, rfl⟩

theorem State.SameStores.trans {s t u : State} (h : s.SameStores t) (h' : t.SameStores u) : s.SameStores u :=
  ⟨h'.mem.trans h.mem, h'.rom.trans h.rom, h'.madctlReset.trans h.madctlReset⟩

/-- Issuing a word writes no store, whether it is dropped, rejected, completes at once or starts the engine. -/
theorem State.issue_sameStores (s : State) (w : Word) (e : View → Expansion) : s.SameStores (s.issue w e) := by
  rcases s.issue_cases w e with ⟨-, h⟩ | ⟨-, c, -, h⟩ | ⟨-, fb, b, -, h⟩ | ⟨-, its, fb, b, -, -, h⟩ <;>
    rw [h] <;> exact ⟨rfl, rfl, rfl⟩

theorem State.applyMark_sameStores (s : State) (m : Mark) : s.SameStores (s.applyMark m) := by
  cases m <;> exact ⟨rfl, rfl, rfl⟩

theorem State.advance_sameStores (s : State) (rest : List Item) : s.SameStores (s.advance rest) := ⟨rfl, rfl, rfl⟩

theorem State.engineStep_sameStores (s : State) (ans : BusAnswer) : s.SameStores (s.engineStep ans) := by
  rcases s.engineStep_cases ans with ⟨h, -⟩ | ⟨-, -, ⟨m, rest, -, h⟩ | ⟨t, rest, -, -, h⟩ | ⟨t, rest, k, -, -, h⟩ |
    ⟨t, rest, -, -, h⟩ | ⟨-, h⟩⟩ <;> rw [h]
  case inr.inl => exact (s.applyMark_sameStores m).trans (State.advance_sameStores _ rest)
  all_goals exact ⟨rfl, rfl, rfl⟩

theorem State.writeReg_sameStores (s : State) (r : Reg) (v : Word) : s.SameStores (s.writeReg r v) := by
  cases r with
  | panelW => simp only [State.writeReg]; split <;> exact ⟨rfl, rfl, rfl⟩
  | panelH => simp only [State.writeReg]; split <;> exact ⟨rfl, rfl, rfl⟩
  | _ => exact ⟨rfl, rfl, rfl⟩

theorem State.guardedWrite_sameStores (s : State) (r : Reg) (v : Word) : s.SameStores (s.guardedWrite r v) := by
  unfold State.guardedWrite
  split
  · exact ⟨rfl, rfl, rfl⟩
  · exact s.writeReg_sameStores r v

theorem State.resetCore_sameStores (s : State) (cut : Option Nat) : s.SameStores (s.resetCore cut) := ⟨rfl, rfl, rfl⟩

/-- A late read of the running command reads the memory and does not write it (R46, R47). -/
theorem State.lateRead_sameStores (s : State) (bytes : List RacingByte) : s.SameStores (s.lateRead bytes) := by
  rcases s.lateRead_cases bytes with h | ⟨-, -, -, its, fb, b, -, -, h⟩ <;> rw [h] <;> exact ⟨rfl, rfl, rfl⟩

theorem issueWord_sameStores {w : Word} {s t : State} (h : issueWord w s = .next t) : s.SameStores t := by
  rcases issueWord_eq w s with hw | ⟨i, -, hw⟩
  · rw [hw] at h
    cases h
    exact s.issue_sameStores w _
  · rw [hw, exec_eq_issue] at h
    cases h
    exact s.issue_sameStores _ _

theorem hostWrite_sameStores {off : Offset} {v : Word} {s t : State} (h : hostWrite off v s = .next t) :
    s.SameStores t := by
  rcases hostWrite_cases off v s with ⟨-, hw⟩ | ⟨-, hw⟩ | ⟨r, -, -, hw⟩ <;> rw [hw] at h
  · cases h
    exact .refl s
  · exact issueWord_sameStores h
  · cases h
    exact s.guardedWrite_sameStores r v

/-- Every move but a platform write keeps the three stores (R5, R47). -/
theorem perform_sameStores {e : Event} {s t : State} (he : ∀ addr b, e ≠ .memWrite addr b)
    (h : perform e s = .next t) : s.SameStores t := by
  cases e with
  | hostWrite off v => exact hostWrite_sameStores h
  | memWrite addr b => exact absurd rfl (he addr b)
  | hostRead off => cases h; exact ⟨rfl, rfl, rfl⟩
  | engine ans => cases h; exact s.engineStep_sameStores ans
  | reset cut => cases h; exact s.resetCore_sameStores cut
  | lateRead bytes => cases h; exact s.lateRead_sameStores bytes

/-- A step whose move is no platform write keeps the three stores (R5, R47). -/
theorem step_sameStores {s t : State} (he : ∀ addr b rest, s.agenda ≠ .memWrite addr b :: rest)
    (h : step s = .next t) : s.SameStores t := by
  cases ha : s.agenda with
  | nil =>
    rw [step_nil ha] at h
    cases h
    exact .refl s
  | cons e rest =>
    rw [step_cons ha] at h
    have hne : ∀ addr b, e ≠ .memWrite addr b := fun addr b he' => he addr b rest (he' ▸ ha)
    exact (s.withAgenda_sameStores rest).trans (perform_sameStores hne h)

/-- A step whose move is a platform write is that write (R44). -/
theorem step_memWrite {s : State} {addr : Word} {b : Byte} {rest : List Event}
    (ha : s.agenda = .memWrite addr b :: rest) : step s = .next ((s.withAgenda rest).platformWrite addr b) :=
  step_cons ha

/-- No step writes the glyph ROM or the build parameter `MADCTL_RESET` (R5, R31, R48). -/
theorem step_rom_madctlReset {s t : State} (h : step s = .next t) :
    t.rom = s.rom ∧ t.madctlReset = s.madctlReset := by
  by_cases hw : ∃ addr b rest, s.agenda = .memWrite addr b :: rest
  · obtain ⟨addr, b, rest, ha⟩ := hw
    rw [step_memWrite ha] at h
    cases h
    exact ⟨rfl, rfl⟩
  · have hs := step_sameStores (fun addr b rest ha => hw ⟨addr, b, rest, ha⟩) h
    exact ⟨hs.rom, hs.madctlReset⟩

/-- The memory after a step that is a platform write (R44). -/
theorem step_memWrite_mem {s t : State} {addr : Word} {b : Byte} {rest : List Event} (h : step s = .next t)
    (ha : s.agenda = .memWrite addr b :: rest) : t.mem = Memory.writeByte s.mem addr.toNat b := by
  rw [step_memWrite ha] at h
  cases h
  rfl

/-! ## Bytes of the glyph ROM (R48, R49) -/

/-- A table listed byte by byte from index `n` holds its byte `a` at index `n + a`. -/
theorem Memory.find?_zipIdx (l : List Byte) (n a : Nat) :
    Memory.find? ((l.zipIdx n).map fun p => (p.2, p.1)) (n + a) = l[a]? := by
  induction l generalizing n a with
  | nil => rfl
  | cons b l ih =>
    cases a with
    | zero => simp [Memory.find?]
    | succ a =>
      have hnext : n + (a + 1) = n + 1 + a := by omega
      rw [List.getElem?_cons_succ, ← ih (n + 1) a, ← hnext]
      simp [Memory.find?]

theorem find?_romOf_font12 (t12 t16 : List Byte) (a : Nat) : Memory.find? (romOf t12 t16).font12 a = t12[a]? := by
  simpa [romOf] using Memory.find?_zipIdx t12 0 a

theorem find?_romOf_font16 (t12 t16 : List Byte) (a : Nat) : Memory.find? (romOf t12 t16).font16 a = t16[a]? := by
  simpa [romOf] using Memory.find?_zipIdx t16 0 a

/-- `Rom(12, code, r)` is the byte of the 12-row table at `(code - 0x20) * 12 + r` (R49). -/
theorem romOf_byte_12 {t12 : List Byte} {code r : Nat} (t16 : List Byte) (h : (code - 0x20) * 12 + r < t12.length) :
    (romOf t12 t16).byte 12 code r = t12[(code - 0x20) * 12 + r] := by
  simp [GlyphRom.byte, find?_romOf_font12, Config.codeMin, h]

/-- `Rom(16, code, r)` is the byte of the 16-row table at `(code - 0x20) * 16 + r` (R49). -/
theorem romOf_byte_16 {t16 : List Byte} {code r : Nat} (t12 : List Byte) (h : (code - 0x20) * 16 + r < t16.length) :
    (romOf t12 t16).byte 16 code r = t16[(code - 0x20) * 16 + r] := by
  simp [GlyphRom.byte, find?_romOf_font16, Config.codeMin, h]

/-- Byte `r` of the `g`-th block of `size` bytes of a table. -/
theorem getElem?_block {l : List Byte} {size g r : Nat} (hr : r < size) (h : g * size + r < l.length) :
    ((l.drop (size * g)).take size)[r]? = some l[g * size + r] := by
  rw [List.getElem?_take_of_lt hr, List.getElem?_drop, Nat.mul_comm size g, List.getElem?_eq_getElem h]

/-- Settles O15: every move but a platform write keeps the stores, a platform write is one `Memory.writeByte`, and a
byte of a whole table is found at its glyph's block. -/
theorem sourceMemoryAndRomAreReadOnly : Obligations.SourceMemoryAndRomAreReadOnly := by
  refine ⟨fun s t h => ?_, fun t12 t16 code r h12 h16 hlo hhi => ⟨fun hr => ?_, fun hr => ?_⟩⟩
  · obtain ⟨hrom, htable⟩ := step_rom_madctlReset h
    refine ⟨hrom, htable, fun hne => (step_sameStores hne h).mem, fun addr b rest ha => ?_⟩
    rw [step_memWrite_mem h ha]
    exact ⟨fun a hne => Memory.readByte_writeByte_other s.mem hne, Memory.readByte_writeByte_same⟩
  · have hin : (code - 0x20) * 12 + r < t12.length := by omega
    rw [romOf_byte_12 t16 hin, getElem?_block hr hin]
  · have hin : (code - 0x20) * 16 + r < t16.length := by omega
    rw [romOf_byte_16 t12 hin, getElem?_block hr hin]

end Sys2Proof.Machine
end

section
/-! Proofs of family `10_state`, part 1: facts about the state that the proofs of the family share. What the one move
of a step is, which register an offset names, which fields each operation leaves as they are. -/

namespace Sys2Proof.Machine

/-! ## The words of commands (R69 to R75) -/

theorem decode_encode (i : Instr) : decode (encode i) = .ok i := by
  cases i with
  | nop => exact Laws.RoundTrip.nop.1
  | wrcmd => exact Laws.RoundTrip.wrcmd.1
  | wrdata8 => exact Laws.RoundTrip.wrdata8.1
  | wrdata16 => exact Laws.RoundTrip.wrdata16.1
  | setwin => exact Laws.RoundTrip.setwin.1
  | setorient => exact Laws.RoundTrip.setorient.1
  | point => exact Laws.RoundTrip.point.1
  | line => exact Laws.RoundTrip.line.1
  | rect => exact Laws.RoundTrip.rect.1
  | rectf => exact Laws.RoundTrip.rectf.1
  | circle => exact Laws.RoundTrip.circle.1
  | circlef => exact Laws.RoundTrip.circlef.1
  | tri => exact Laws.RoundTrip.tri.1
  | trif => exact Laws.RoundTrip.trif.1
  | textchar ov => exact (Laws.RoundTrip.textchar ov).1
  | textstr ov => exact (Laws.RoundTrip.textstr ov).1
  | textctr ov => exact (Laws.RoundTrip.textctr ov).1
  | numeric ov => exact (Laws.RoundTrip.numeric ov).1
  | blit => exact Laws.RoundTrip.blit.1
  | fillscr => exact Laws.RoundTrip.fillscr.1

/-- A row of the table is found under its own `OPC`, and under its own `F` and `OV` where these bits are allowed. -/
theorem tableRow_fields {opc : Byte} {f ov : Bool} {i : Instr} (h : tableRow opc f ov = some i)
    (hf : f = true → takesFill opc = true) (hov : ov = true → takesOverlay opc = true) :
    i.opc = opc ∧ i.fill = f ∧ i.overlay = ov := by
  unfold tableRow at h
  split at h
  case h_18 => cases h
  all_goals
    next hopc =>
      have heq : opc = BitVec.ofNat 8 opc.toNat := by simp
      rw [hopc] at heq
      subst heq
      cases h
      cases f <;> cases ov <;> simp_all [takesFill, takesOverlay, Instr.opc, Instr.fill, Instr.overlay]

/-- What a legal word satisfies (R75): no reserved bit, `F` and `OV` only where allowed, and a row of the table. -/
theorem decode_ok {w : Word} {i : Instr} (h : decode w = .ok i) :
    resField w = 0#22 ∧ (fillField w = true → takesFill (opcField w) = true) ∧
      (overlayField w = true → takesOverlay (opcField w) = true) ∧
      tableRow (opcField w) (fillField w) (overlayField w) = some i := by
  unfold decode at h
  split_ifs at h with hres hfill hov
  split at h
  · next j hrow =>
    cases h
    refine ⟨by simpa using hres, fun hf => ?_, fun ho => ?_, hrow⟩
    · simpa [hf] using hfill
    · simpa [ho] using hov
  · cases h

/-- A word is made of its four fields (R69). -/
theorem word_eq_fields (w : Word) :
    w = resField w ++ BitVec.ofBool (overlayField w) ++ BitVec.ofBool (fillField w) ++ opcField w := by
  apply BitVec.eq_of_getLsbD_eq
  intro k hk
  simp only [resField, overlayField, fillField, opcField, BitVec.getLsbD_append, BitVec.getLsbD_extractLsb',
    BitVec.getLsbD_ofBool]
  by_cases h8 : k < 8
  · simp [h8]
  · by_cases h9 : k = 8
    · subst h9; simp
    · by_cases h10 : k = 9
      · subst h10; simp
      · have hk22 : k - 8 - 1 - 1 < 22 := by omega
        have hidx : 10 + (k - 8 - 1 - 1) = k := by omega
        have hlt1 : ¬k - 8 < 1 := by omega
        have hlt2 : ¬k - 8 - 1 < 1 := by omega
        simp [h8, hlt1, hlt2, hk22, hidx]

/-- Only a command's own word decodes to it (R74, R75). -/
theorem eq_encode_of_decode {w : Word} {i : Instr} (h : decode w = .ok i) : w = encode i := by
  obtain ⟨hres, hfill, hov, hrow⟩ := decode_ok h
  obtain ⟨hopc, hf, ho⟩ := tableRow_fields hrow hfill hov
  rw [word_eq_fields w, encode, hres, hopc, hf, ho]

/-- `Expand` of a command's own word is the expansion of the command (R75). -/
theorem expandWord_of_decode {w : Word} {i : Instr} (h : decode w = .ok i) : expandWord w = expandOf i := by
  funext v
  simp [expandWord, h]

/-- A write to `CMD` is one issue of the word with `Expand` of it, legal or not (R18, R75, R78). -/
theorem issueWord_eq_issue (w : Word) (s : State) : issueWord w s = .next (s.issue w (expandWord w)) := by
  rcases issueWord_eq w s with h | ⟨i, hi, h⟩
  · exact h
  · rw [h, exec_eq_issue, expandWord_of_decode hi, ← eq_encode_of_decode hi]

/-! ## The register map (R14, R16, R17) -/

theorem Reg.ofOffset_of_index {off : Offset} {n : Nat} {r : Reg} (h : off.toNat / 4 = n)
    (hr : Reg.ofIndex n = some r) : Reg.ofOffset off = some r := by
  rw [Reg.ofOffset, h, hr]

/-- The register an offset names stands at that offset but for bits 1 and 0 (R14). -/
theorem Reg.index_of_ofOffset {off : Offset} {r : Reg} (h : Reg.ofOffset off = some r) :
    off.toNat / 4 = r.offset.toNat / 4 := by
  unfold Reg.ofOffset Reg.ofIndex at h
  split at h
  case h_30 => cases h
  all_goals
    next hn =>
      cases h
      exact hn

theorem Reg.ofIndex_arg (i : Fin 8) : Reg.ofIndex (24 + i.val) = some (.arg i) := by
  revert i
  decide

theorem Reg.index_arg (i : Fin 8) : (Reg.arg i).offset.toNat / 4 = 24 + i.val := by
  revert i
  decide

/-- The words of the register space that hold a configuration register (R16, R17). -/
def configIndices : List Nat := [2, 6, 7, 8, 9, 10, 11, 12, 13, 14, 15, 16]

/-- The words of the register space whose writes are guarded: `CMD` and the configuration (R16). -/
def guardedIndices : List Nat := 0 :: configIndices

theorem Reg.index_mem_config {r : Reg} (hg : r.guarded = true) (hc : r ≠ .cmd) :
    r.offset.toNat / 4 ∈ configIndices := by
  cases r with
  | cmd => exact absurd rfl hc
  | arg i => cases hg
  | _ => revert hg; decide

theorem Reg.guarded_of_index {off : Offset} (h : off.toNat / 4 ∈ guardedIndices) :
    ∃ r, Reg.ofOffset off = some r ∧ r.guarded = true := by
  have hall : ∀ n ∈ guardedIndices, ∃ r, Reg.ofIndex n = some r ∧ r.guarded = true := by
    simp [guardedIndices, configIndices, Reg.ofIndex, Reg.guarded]
  exact hall _ h

/-! ## The one move of a step (R13) -/

/-- `Made e s t`: the move `e` made in state `s` leads to `t`, one constructor for each thing a move can be. -/
inductive Made : Event → State → State → Prop where
  | read (off : Offset) (s : State) : Made (.hostRead off) s (s.hostRead off)
  | reserved (off : Offset) (v : Word) (s : State) (h : Reg.ofOffset off = none) : Made (.hostWrite off v) s s
  | issue (off : Offset) (v : Word) (s : State) (h : Reg.ofOffset off = some .cmd) :
    Made (.hostWrite off v) s (s.issue v (expandWord v))
  | write (off : Offset) (v : Word) (r : Reg) (s : State) (hr : r ≠ .cmd) (h : Reg.ofOffset off = some r) :
    Made (.hostWrite off v) s (s.guardedWrite r v)
  | engine (ans : BusAnswer) (s : State) : Made (.engine ans) s (s.engineStep ans)
  | reset (cut : Option Nat) (s : State) : Made (.reset cut) s (s.resetCore cut)
  | memWrite (addr : Word) (b : Byte) (s : State) : Made (.memWrite addr b) s (s.platformWrite addr b)
  | lateRead (bytes : List RacingByte) (s : State) : Made (.lateRead bytes) s (s.lateRead bytes)

/-- Every move is made, and in one of the ways listed. -/
theorem perform_made (e : Event) (s : State) : ∃ t, perform e s = .next t ∧ Made e s t := by
  cases e with
  | hostRead off => exact ⟨_, rfl, .read off s⟩
  | engine ans => exact ⟨_, rfl, .engine ans s⟩
  | reset cut => exact ⟨_, rfl, .reset cut s⟩
  | memWrite addr b => exact ⟨_, rfl, .memWrite addr b s⟩
  | lateRead bytes => exact ⟨_, rfl, .lateRead bytes s⟩
  | hostWrite off v =>
    rcases hostWrite_cases off v s with ⟨hr, h⟩ | ⟨hr, h⟩ | ⟨r, hne, hr, h⟩
    · exact ⟨_, h, .reserved off v s hr⟩
    · exact ⟨_, h.trans (issueWord_eq_issue v s), .issue off v s hr⟩
    · exact ⟨_, h, .write off v r s hne hr⟩

/-- What a step can do: nothing if no move is left, else the first move of the agenda. -/
theorem step_made {s t : State} (h : step s = .next t) :
    (s.agenda = [] ∧ t = s) ∨ ∃ e rest, s.agenda = e :: rest ∧ Made e (s.withAgenda rest) t := by
  cases ha : s.agenda with
  | nil =>
    rw [step_nil ha] at h
    cases h
    exact .inl ⟨rfl, rfl⟩
  | cons e rest =>
    obtain ⟨u, hu, hmade⟩ := perform_made e (s.withAgenda rest)
    rw [step_cons ha, hu] at h
    cases h
    exact .inr ⟨e, rest, rfl, hmade⟩

section
variable {s : State} {off : Offset} {v : Word} {rest : List Event}

theorem step_hostRead (ha : s.agenda = .hostRead off :: rest) :
    step s = .next ((s.withAgenda rest).hostRead off) := step_cons ha

theorem step_engine {ans : BusAnswer} (ha : s.agenda = .engine ans :: rest) :
    step s = .next ((s.withAgenda rest).engineStep ans) := step_cons ha

theorem step_reset {cut : Option Nat} (ha : s.agenda = .reset cut :: rest) :
    step s = .next ((s.withAgenda rest).resetCore cut) := step_cons ha

theorem step_writeReserved (ha : s.agenda = .hostWrite off v :: rest) (hr : Reg.ofOffset off = none) :
    step s = .next (s.withAgenda rest) := by
  simp [step_cons ha, perform, hostWrite, hr]

theorem step_writeCmd (ha : s.agenda = .hostWrite off v :: rest) (hr : Reg.ofOffset off = some .cmd) :
    step s = .next ((s.withAgenda rest).issue v (expandWord v)) := by
  simp [step_cons ha, perform, hostWrite, hr, issueWord_eq_issue]

theorem step_writeReg {r : Reg} (ha : s.agenda = .hostWrite off v :: rest) (hr : Reg.ofOffset off = some r)
    (hne : r ≠ .cmd) : step s = .next ((s.withAgenda rest).guardedWrite r v) := by
  rw [step_cons ha]
  rcases hostWrite_cases off v (s.withAgenda rest) with ⟨h, -⟩ | ⟨h, -⟩ | ⟨r', -, h, hw⟩ <;> rw [hr] at h
  · cases h
  · exact absurd (Option.some.inj h) hne
  · cases h
    exact hw

/-- A write to a guarded register while busy is dropped, `CMD` included (R16, R18). -/
theorem step_guardedBusy (ha : s.agenda = .hostWrite off v :: rest) (hp : s.phase = .busy)
    (hi : off.toNat / 4 ∈ guardedIndices) : step s = .next (s.withAgenda rest).dropWrite := by
  obtain ⟨r, hr, hg⟩ := Reg.guarded_of_index hi
  have hb : (s.withAgenda rest).phase = .busy := hp
  by_cases hc : r = .cmd
  · rw [step_writeCmd ha (hc ▸ hr), State.issue_busy hb]
  · rw [step_writeReg ha hr hc]
    simp [State.guardedWrite, hg, State.busy, hp]

end

section
variable {s : State} {rest : List Event} {tl : List Item}

theorem step_engine_mark {ans : BusAnswer} {m : Mark} (ha : s.agenda = .engine ans :: rest) (hp : s.phase = .busy)
    (hs : s.stalled = false) (hq : s.q = .mark m :: tl) :
    step s = .next (((s.withAgenda rest).applyMark m).advance tl) := by
  simp [step_engine ha, State.engineStep, hp, hs, hq]

theorem step_engine_ok {t : Tx} (ha : s.agenda = .engine .ok :: rest) (hp : s.phase = .busy)
    (hs : s.stalled = false) (hq : s.q = .tx t :: tl) :
    step s = .next (((s.withAgenda rest).carry t).advance tl) := by
  simp [step_engine ha, State.engineStep, hp, hs, hq]

theorem step_engine_fault {t : Tx} {k : Nat} (ha : s.agenda = .engine (.fault k) :: rest) (hp : s.phase = .busy)
    (hs : s.stalled = false) (hq : s.q = .tx t :: tl) :
    step s = .next ((s.withAgenda rest).transportFault t k) := by
  simp [step_engine ha, State.engineStep, hp, hs, hq]

theorem step_engine_noAnswer {t : Tx} (ha : s.agenda = .engine .noAnswer :: rest) (hp : s.phase = .busy)
    (hs : s.stalled = false) (hq : s.q = .tx t :: tl) : step s = .next (s.withAgenda rest).stall := by
  simp [step_engine ha, State.engineStep, hp, hs, hq]

end

/-! ## What a host write to a register other than `CMD` can do (R16, R17) -/

theorem State.guardedWrite_unguarded {r : Reg} (s : State) (h : r.guarded = false) (v : Word) :
    s.guardedWrite r v = s.writeReg r v := by
  simp [State.guardedWrite, h]

theorem State.guardedWrite_idle {s : State} (h : s.phase = .idle) (r : Reg) (v : Word) :
    s.guardedWrite r v = s.writeReg r v := by
  simp [State.guardedWrite, State.busy, h]

theorem State.guardedWrite_cases (s : State) (r : Reg) (v : Word) :
    (s.phase = .busy ∧ r.guarded = true ∧ s.guardedWrite r v = s.dropWrite) ∨
      ((s.phase = .idle ∨ r.guarded = false) ∧ s.guardedWrite r v = s.writeReg r v) := by
  cases hg : r.guarded with
  | false => exact .inr ⟨.inr rfl, s.guardedWrite_unguarded hg v⟩
  | true =>
    cases hp : s.phase with
    | idle => exact .inr ⟨.inl rfl, State.guardedWrite_idle hp r v⟩
    | busy => exact .inl ⟨rfl, rfl, by simp [State.guardedWrite, hg, State.busy, hp]⟩

/-! ## What the operations leave as it is -/

/-- The configuration registers (R25, R28 to R31). -/
def State.config (s : State) :
    Bool × Half × Half × Half × Byte × Byte × Byte × Byte × Byte × Byte × Byte × Byte :=
  (s.bulkEn, s.panelW, s.panelH, s.controllerId, s.opcCaset, s.opcRaset, s.opcRamwr, s.opcMadctl, s.madctl0,
    s.madctl1, s.madctl2, s.madctl3)

/-- What the engine makes of the display: `WINV`, the window shadow and `ORIENT` (R21, R26, R32). -/
def State.display (s : State) : Bool × Byte × Byte × Byte × Byte × BitVec 2 :=
  (s.winv, s.winXs, s.winYs, s.winXe, s.winYe, s.orient)

/-- `t` has the registers of `s` that only the host writes: `A0` to `A7`, the configuration and `OVERRUN`. -/
structure State.SameHostRegs (s t : State) : Prop where
  args : t.args = s.args
  config : t.config = s.config
  overrun : t.overrun = s.overrun

theorem State.issue_args (s : State) (w : Word) (e : View → Expansion) : (s.issue w e).args = s.args := by
  rcases s.issue_cases w e with ⟨-, h⟩ | ⟨-, c, -, h⟩ | ⟨-, fb, b, -, h⟩ | ⟨-, its, fb, b, -, -, h⟩ <;> rw [h] <;> rfl

theorem State.issue_config (s : State) (w : Word) (e : View → Expansion) : (s.issue w e).config = s.config := by
  rcases s.issue_cases w e with ⟨-, h⟩ | ⟨-, c, -, h⟩ | ⟨-, fb, b, -, h⟩ | ⟨-, its, fb, b, -, -, h⟩ <;> rw [h] <;> rfl

theorem State.issue_display (s : State) (w : Word) (e : View → Expansion) : (s.issue w e).display = s.display := by
  rcases s.issue_cases w e with ⟨-, h⟩ | ⟨-, c, -, h⟩ | ⟨-, fb, b, -, h⟩ | ⟨-, its, fb, b, -, -, h⟩ <;> rw [h] <;> rfl

theorem State.issue_overrun_idle {s : State} (hp : s.phase = .idle) (w : Word) (e : View → Expansion) :
    (s.issue w e).overrun = s.overrun := by
  rcases s.issue_cases w e with ⟨hb, -⟩ | ⟨-, c, -, h⟩ | ⟨-, fb, b, -, h⟩ | ⟨-, its, fb, b, -, -, h⟩
  · rw [hp] at hb
    cases hb
  all_goals rw [h]; rfl

theorem State.applyMark_sameHostRegs (s : State) (m : Mark) : s.SameHostRegs (s.applyMark m) := by
  cases m <;> exact ⟨rfl, rfl, rfl⟩

/-- No engine step writes a register of the host's (R30, R31, R33). -/
theorem State.engineStep_sameHostRegs (s : State) (ans : BusAnswer) : s.SameHostRegs (s.engineStep ans) := by
  rcases s.engineStep_cases ans with ⟨h, -⟩ | ⟨-, -, ⟨m, rest, -, h⟩ | ⟨t, rest, -, -, h⟩ | ⟨t, rest, k, -, -, h⟩ |
    ⟨t, rest, -, -, h⟩ | ⟨-, h⟩⟩ <;> rw [h]
  case inr.inl =>
    obtain ⟨hargs, hconfig, hoverrun⟩ := s.applyMark_sameHostRegs m
    exact ⟨hargs, hconfig, hoverrun⟩
  all_goals exact ⟨rfl, rfl, rfl⟩

theorem State.lateRead_sameHostRegs (s : State) (bytes : List RacingByte) : s.SameHostRegs (s.lateRead bytes) := by
  rcases s.lateRead_cases bytes with h | ⟨-, -, -, its, fb, b, -, -, h⟩ <;> rw [h] <;> exact ⟨rfl, rfl, rfl⟩

theorem State.lateRead_display (s : State) (bytes : List RacingByte) : (s.lateRead bytes).display = s.display := by
  rcases s.lateRead_cases bytes with h | ⟨-, -, -, its, fb, b, -, -, h⟩ <;> rw [h]
  rfl

theorem State.writeReg_display (s : State) (r : Reg) (v : Word) : (s.writeReg r v).display = s.display := by
  cases r with
  | panelW => simp only [State.writeReg]; split <;> rfl
  | panelH => simp only [State.writeReg]; split <;> rfl
  | _ => rfl

theorem State.guardedWrite_display (s : State) (r : Reg) (v : Word) : (s.guardedWrite r v).display = s.display := by
  rcases s.guardedWrite_cases r v with ⟨-, -, h⟩ | ⟨-, h⟩ <;> rw [h]
  · rfl
  · exact s.writeReg_display r v

/-- A write that is performed on an unguarded register writes no configuration register (R16). -/
theorem State.writeReg_config {r : Reg} (s : State) (hr : r.guarded = false) (v : Word) :
    (s.writeReg r v).config = s.config := by
  cases r with
  | status => rfl
  | orient => rfl
  | width => rfl
  | height => rfl
  | winXs => rfl
  | winYs => rfl
  | winXe => rfl
  | winYe => rfl
  | arg i => rfl
  | _ => cases hr

/-- A write that is performed on a register other than `STATUS` leaves `OVERRUN` (R16, R19). -/
theorem State.writeReg_overrun {r : Reg} (s : State) (hr : r ≠ .status) (v : Word) :
    (s.writeReg r v).overrun = s.overrun := by
  cases r with
  | status => exact absurd rfl hr
  | panelW => simp only [State.writeReg]; split <;> rfl
  | panelH => simp only [State.writeReg]; split <;> rfl
  | _ => rfl

/-- Only an engine step and reset change `WINV`, the shadow or `ORIENT` (R21, R26, R32). -/
theorem Made.display_cases {e : Event} {s t : State} (h : Made e s t) :
    t.display = s.display ∨ (∃ cut, e = .reset cut ∧ t = s.resetCore cut) ∨
      ∃ ans, e = .engine ans ∧ t = s.engineStep ans := by
  cases h with
  | read off => exact .inl rfl
  | reserved off v => exact .inl rfl
  | issue off v => exact .inl (s.issue_display v _)
  | write off v r => exact .inl (s.guardedWrite_display r v)
  | memWrite addr b => exact .inl rfl
  | lateRead bytes => exact .inl (s.lateRead_display bytes)
  | reset cut => exact .inr (.inl ⟨cut, rfl, rfl⟩)
  | engine ans => exact .inr (.inr ⟨ans, rfl, rfl⟩)

/-- An engine step changes the display only by a mark or by a transport fault (R36, R135). -/
theorem State.engineStep_display_cases (s : State) (ans : BusAnswer) :
    (s.engineStep ans).display = s.display ∨
      (s.phase = .busy ∧ ∃ m rest, s.q = .mark m :: rest ∧ (s.engineStep ans).display = (s.applyMark m).display) ∨
      ∃ k t rest, ans = .fault k ∧ s.q = .tx t :: rest ∧ s.engineStep ans = s.transportFault t k := by
  rcases s.engineStep_cases ans with ⟨h, -⟩ | ⟨hp, -, ⟨m, rest, hq, h⟩ | ⟨t, rest, -, -, h⟩ | ⟨t, rest, k, hq, ha, h⟩ |
    ⟨t, rest, -, -, h⟩ | ⟨-, h⟩⟩
  · exact .inl (by rw [h])
  · exact .inr (.inl ⟨hp, m, rest, hq, by rw [h]; rfl⟩)
  · exact .inl (by rw [h]; rfl)
  · exact .inr (.inr ⟨k, t, rest, ha, hq, h⟩)
  · exact .inl (by rw [h]; rfl)
  · exact .inl (by rw [h]; rfl)

end Sys2Proof.Machine
end

section
/-! Proofs of family `10_state`, part 2: what every expansion is made of (R75, R92, R94, R132). Its window marks are
windows on the latched screen, its other marks are those of `WRCMD` and `SETORIENT`, and a drawing ends with the
restore. -/

namespace Sys2Proof.Machine

/-! ## Marks of lists of items -/

@[simp] theorem marksOf_nil : marksOf [] = [] := rfl

@[simp] theorem marksOf_tx (t : Tx) (its : List Item) : marksOf (.tx t :: its) = marksOf its := rfl

@[simp] theorem marksOf_mark (m : Mark) (its : List Item) : marksOf (.mark m :: its) = m :: marksOf its := rfl

theorem mem_marksOf {m : Mark} {its : List Item} : m ∈ marksOf its ↔ .mark m ∈ its := by
  induction its with
  | nil => simp
  | cons it its ih => cases it <;> simp [ih]

/-- The mark of the window `(x0, y0, x1, y1)` (R93). -/
def windowMark (x0 y0 x1 y1 : Int) : Mark := .winShadow (low8 x0) (low8 y0) (low8 x1) (low8 y1)

/-- Every mark of `its` is that of a window which is valid on a screen that has a pixel (R92). -/
def PlacesWindows (c : LatchedCfg) (its : List Item) : Prop :=
  ∀ m, .mark m ∈ its → ∃ x0 y0 x1 y1, m = windowMark x0 y0 x1 y1 ∧ (1 ≤ c.w → 1 ≤ c.h → validWin c x0 y0 x1 y1 = true)

theorem validWin_iff {c : LatchedCfg} {x0 y0 x1 y1 : Int} :
    validWin c x0 y0 x1 y1 = true ↔ (0 ≤ x0 ∧ x0 ≤ x1 ∧ x1 < c.w) ∧ 0 ≤ y0 ∧ y0 ≤ y1 ∧ y1 < c.h := by
  simp only [validWin, Bool.and_eq_true, decide_eq_true_eq, and_assoc]
  omega

theorem onScreen_iff {c : LatchedCfg} {x y : Int} :
    onScreen c x y = true ↔ (0 ≤ x ∧ x < c.w) ∧ 0 ≤ y ∧ y < c.h := by
  simp only [onScreen, Bool.and_eq_true, decide_eq_true_eq]

theorem low8_toNat {v : Int} (h0 : 0 ≤ v) (h : v < 256) : (low8 v).toNat = v.toNat := by
  rw [low8, BitVec.toNat_ofInt]
  omega

/-- The mark of a valid window lies on a screen of legal dimensions (R92). -/
theorem windowMark_within {c : LatchedCfg} {x0 y0 x1 y1 : Int} (h : validWin c x0 y0 x1 y1 = true)
    (hw : dimOk c.width) (hh : dimOk c.height) : (windowMark x0 y0 x1 y1).within c := by
  obtain ⟨⟨hx0, hx, hx1⟩, hy0, hy, hy1⟩ := validWin_iff.1 h
  obtain ⟨-, hw⟩ := hw
  obtain ⟨-, hh⟩ := hh
  simp only [LatchedCfg.w, LatchedCfg.h] at hx1 hy1
  simp only [windowMark, Mark.within]
  rw [low8_toNat hx0 (by omega), low8_toNat (v := x1) (by omega) (by omega), low8_toNat hy0 (by omega),
    low8_toNat (v := y1) (by omega) (by omega)]
  omega

/-! ## How window-placing lists are put together -/

section
variable {c : LatchedCfg}

theorem PlacesWindows.append {a b : List Item} (ha : PlacesWindows c a) (hb : PlacesWindows c b) :
    PlacesWindows c (a ++ b) := fun m hm => (List.mem_append.1 hm).elim (ha m) (hb m)

theorem PlacesWindows.flatMap {α : Type} {l : List α} {f : α → List Item} (h : ∀ x ∈ l, PlacesWindows c (f x)) :
    PlacesWindows c (l.flatMap f) := by
  intro m hm
  obtain ⟨x, hx, hmx⟩ := List.mem_flatMap.1 hm
  exact h x hx m hmx

theorem PlacesWindows.nil : PlacesWindows c [] := fun _ hm => nomatch hm

theorem PlacesWindows.tx (t : Tx) : PlacesWindows c [.tx t] := fun m hm => by simp at hm

theorem PlacesWindows.txs {α : Type} (l : List α) (f : α → Tx) : PlacesWindows c (l.map fun a => .tx (f a)) :=
  fun m hm => by simp at hm

theorem solidPixels_placesWindows (n : Nat) (colour : Half) : PlacesWindows c (solidPixels n colour) :=
  fun m hm => by simp [solidPixels, List.mem_replicate] at hm

theorem winSeq_placesWindows {x0 y0 x1 y1 : Int} (h : 1 ≤ c.w → 1 ≤ c.h → validWin c x0 y0 x1 y1 = true) :
    PlacesWindows c (winSeq c x0 y0 x1 y1) := by
  intro m hm
  have hm : m = windowMark x0 y0 x1 y1 := by simpa [winSeq, windowMark] using hm
  exact ⟨x0, y0, x1, y1, hm, h⟩

theorem fullWin_placesWindows : PlacesWindows c (fullWin c) :=
  winSeq_placesWindows fun hw hh => validWin_iff.2 ⟨by omega, by omega⟩

theorem plot_placesWindows {p : Int × Int} (h : onScreen c p.1 p.2 = true) (colour : Half) :
    PlacesWindows c (plot c colour p) := by
  have hp := onScreen_iff.1 h
  exact (winSeq_placesWindows fun _ _ => validWin_iff.2 ⟨by omega, by omega⟩).append (.tx _)

theorem plots_placesWindows {ps : List (Int × Int)} (h : ∀ p ∈ ps, onScreen c p.1 p.2 = true) (colour : Half) :
    PlacesWindows c (plots c colour ps) := .flatMap fun p hp => plot_placesWindows (h p hp) colour

theorem drawn_placesWindows {body : List Item} (h : PlacesWindows c body) : PlacesWindows c (drawn c body).list :=
  h.append fullWin_placesWindows

theorem finish_placesWindows {body : List Item} (h : PlacesWindows c body) : PlacesWindows c (finish c body).list := by
  unfold finish
  split
  · exact drawn_placesWindows h
  · exact .nil

end

end Sys2Proof.Machine
end

section
/-! Proofs of family `10_state`, part 3: where the rasterizers plot (R98, R103 to R108, R110). -/

namespace Sys2Proof.Machine

/-! ## Lines (R98) -/

/-- `lineOffset` is the one step count whose accumulator lies in `(-d, d]` (R98). -/
theorem lineOffset_eq_of_bounds {d delta j k : Nat} (hlo : 2 * (d * k) < 2 * (j * delta) + d)
    (hhi : 2 * (j * delta) ≤ 2 * (d * k) + d) : lineOffset d delta j = k := by
  have hd : d ≠ 0 := by
    rintro rfl
    omega
  have hq : (2 * j * delta + d - 1) / (2 * d) = k := by
    rw [Nat.div_eq_iff (by omega), Nat.mul_comm k, Nat.mul_assoc 2 d k, Nat.mul_assoc 2 j delta]
    omega
  rw [lineOffset, if_neg hd, hq]

theorem lineOffset_zero (delta j : Nat) : lineOffset 0 delta j = 0 := rfl

/-- The accumulator of `lineOffset` lies in `(-d, d]` (R98). -/
theorem exists_lineOffset {d : Nat} (hd : 0 < d) (delta j : Nat) :
    ∃ k : Nat, lineOffset d delta j = k ∧ 2 * (d * k) < 2 * (j * delta) + d ∧ 2 * (j * delta) ≤ 2 * (d * k) + d := by
  refine ⟨(2 * j * delta + d - 1) / (2 * d), by rw [lineOffset, if_neg (by omega)], ?_⟩
  have hmod := Nat.div_add_mod (2 * j * delta + d - 1) (2 * d)
  have hlt := Nat.mod_lt (2 * j * delta + d - 1) (by omega : 2 * d > 0)
  rw [Nat.mul_assoc 2 d, Nat.mul_assoc 2 j] at hmod
  rw [Nat.mul_assoc 2 j] at hlt ⊢
  omega

theorem lineOffset_start (d delta : Nat) : lineOffset d delta 0 = 0 := by
  rcases Nat.eq_zero_or_pos d with rfl | hd
  · rfl
  · exact lineOffset_eq_of_bounds (k := 0) (by omega) (by omega)

/-- The longer coordinate moves at every step and the other keeps pace: after all `d` steps both are at their end. -/
theorem lineOffset_end {d delta : Nat} (h : delta ≤ d) : lineOffset d delta d = delta := by
  rcases Nat.eq_zero_or_pos d with rfl | hd
  · obtain rfl := Nat.le_zero.1 h
    rfl
  · exact lineOffset_eq_of_bounds (k := delta) (by omega) (by omega)

theorem lineOffset_nonneg (d delta j : Nat) : 0 ≤ lineOffset d delta j := Int.natCast_nonneg _

theorem lineOffset_mono (d delta : Nat) {i j : Nat} (h : i ≤ j) : lineOffset d delta i ≤ lineOffset d delta j := by
  unfold lineOffset
  split
  · exact le_rfl
  · refine Int.ofNat_le.2 (Nat.div_le_div_right ?_)
    have hmul : 2 * i * delta ≤ 2 * j * delta := Nat.mul_le_mul_right _ (by omega)
    omega

/-- Along a line a coordinate stays between its ends (R98). -/
theorem lineOffset_le {d delta j : Nat} (h : delta ≤ d) (hj : j ≤ d) : lineOffset d delta j ≤ delta :=
  (lineOffset_mono d delta hj).trans_eq (lineOffset_end h)

/-- The accumulator of a coordinate after `j` steps (R98). -/
def lineAcc (d delta j : Nat) : Int := 2 * ((j * delta : Nat) : Int) - 2 * ((d : Int) * lineOffset d delta j)

/-- One accumulator update is one step of the closed form (R98). -/
theorem bresenham_lineAcc {d delta : Nat} (h : delta ≤ d) (j : Nat) (x s : Int) :
    (bresenham (lineAcc d delta j) delta d).1 = lineAcc d delta (j + 1) ∧
      (if (bresenham (lineAcc d delta j) delta d).2 then x + s * lineOffset d delta j + s
        else x + s * lineOffset d delta j) = x + s * lineOffset d delta (j + 1) := by
  rcases Nat.eq_zero_or_pos d with rfl | hd
  · obtain rfl := Nat.le_zero.1 h
    simp [bresenham, lineAcc, lineOffset_zero]
  · obtain ⟨k, hk, hlo, hhi⟩ := exists_lineOffset hd delta j
    have hj : (j + 1) * delta = j * delta + delta := Nat.succ_mul j delta
    have hdk : d * (k + 1) = d * k + d := Nat.mul_succ d k
    have hacc : lineAcc d delta j = 2 * ((j * delta : Nat) : Int) - 2 * ((d * k : Nat) : Int) := by
      rw [lineAcc, hk, Nat.cast_mul d k]
    by_cases hmove : lineAcc d delta j + 2 * delta > d
    · have hnext : lineOffset d delta (j + 1) = ((k + 1 : Nat) : Int) :=
        lineOffset_eq_of_bounds (by omega) (by omega)
      rw [bresenham, if_pos hmove, if_pos rfl, hacc, lineAcc, hnext, hj, hk]
      push_cast
      exact ⟨by ring, by ring⟩
    · have hnext : lineOffset d delta (j + 1) = k := lineOffset_eq_of_bounds (by omega) (by omega)
      rw [bresenham, if_neg hmove, if_neg Bool.false_ne_true, hacc, lineAcc, hnext, hj, hk]
      push_cast
      exact ⟨by ring, rfl⟩

/-- The loop of `LineBody` from step `j` on, in closed form (R98). -/
theorem linePointsFrom_eq_map {d dx dy : Nat} (hx : dx ≤ d) (hy : dy ≤ d) (sx sy x0 y0 : Int) (n j : Nat) :
    linePointsFrom dx dy d sx sy n (lineAcc d dx j) (lineAcc d dy j) (x0 + sx * lineOffset d dx j)
        (y0 + sy * lineOffset d dy j) =
      (List.range' j n).map fun k => (x0 + sx * lineOffset d dx k, y0 + sy * lineOffset d dy k) := by
  induction n generalizing j with
  | zero => rfl
  | succ n ih =>
    obtain ⟨hxacc, hxpos⟩ := bresenham_lineAcc hx j x0 sx
    obtain ⟨hyacc, hypos⟩ := bresenham_lineAcc hy j y0 sy
    rw [linePointsFrom, hxacc, hyacc, hxpos, hypos, ih, List.range'_succ, List.map_cons]

theorem absInt_eq (v : Int) : absInt v = v.natAbs := by
  unfold absInt
  split <;> omega

theorem signInt_eq (v : Int) : signInt v = v.sign := by
  unfold signInt
  split
  · rw [Int.sign_eq_neg_one_of_neg ‹_›]
  · split
    · next h => rw [h, Int.sign_zero]
    · rw [Int.sign_eq_one_of_pos (by omega)]

/-- The accumulator loop plots the closed form (R98). -/
theorem linePoints_eq_closedLine (x0 y0 x1 y1 : Int) : linePoints x0 y0 x1 y1 = closedLine x0 y0 x1 y1 := by
  have h := linePointsFrom_eq_map (Nat.le_max_left (x1 - x0).natAbs (y1 - y0).natAbs) (Nat.le_max_right _ _)
    (x1 - x0).sign (y1 - y0).sign x0 y0 (max (x1 - x0).natAbs (y1 - y0).natAbs + 1) 0
  simp only [lineAcc, lineOffset_start, Nat.zero_mul, Nat.cast_zero, mul_zero, sub_zero, add_zero] at h
  simp only [linePoints, absInt_eq, signInt_eq, ← Nat.cast_max, Int.toNat_natCast, h, closedLine, List.range_eq_range']

/-- `v + sign(w - v) * t` for `t` up to `|w - v|` lies between `v` and `w`. -/
theorem between_of_sign_mul {v w t : Int} (h0 : 0 ≤ t) (h : t ≤ (w - v).natAbs) :
    min v w ≤ v + (w - v).sign * t ∧ v + (w - v).sign * t ≤ max v w := by
  rcases lt_trichotomy (w - v) 0 with hlt | heq | hgt
  · rw [Int.sign_eq_neg_one_of_neg hlt]
    omega
  · rw [heq, Int.sign_zero]
    omega
  · rw [Int.sign_eq_one_of_pos hgt]
    omega

/-- A line stays in the bounding box of its ends (R98). -/
theorem mem_linePoints {x0 y0 x1 y1 : Int} {p : Int × Int} (h : p ∈ linePoints x0 y0 x1 y1) :
    (min x0 x1 ≤ p.1 ∧ p.1 ≤ max x0 x1) ∧ min y0 y1 ≤ p.2 ∧ p.2 ≤ max y0 y1 := by
  rw [linePoints_eq_closedLine, closedLine, List.mem_map] at h
  obtain ⟨j, hj, rfl⟩ := h
  have hj := Nat.lt_succ_iff.1 (List.mem_range.1 hj)
  exact ⟨between_of_sign_mul (lineOffset_nonneg _ _ _) (lineOffset_le (Nat.le_max_left _ _) hj),
    between_of_sign_mul (lineOffset_nonneg _ _ _) (lineOffset_le (Nat.le_max_right _ _) hj)⟩

/-- A line between two points of the screen stays on it (R98). -/
theorem linePoints_onScreen {c : LatchedCfg} {x0 y0 x1 y1 : Int} (h0 : onScreen c x0 y0 = true)
    (h1 : onScreen c x1 y1 = true) : ∀ p ∈ linePoints x0 y0 x1 y1, onScreen c p.1 p.2 = true := by
  intro p hp
  have hbox := mem_linePoints hp
  have h0 := onScreen_iff.1 h0
  have h1 := onScreen_iff.1 h1
  exact onScreen_iff.2 (by omega)

/-! ## Circles (R103 to R107) -/

/-- The octant offsets of `Steps(r)` lie in the octant `0 ≤ a ≤ b ≤ r` (R103). -/
theorem mem_circleStepsFrom {fuel : Nat} {a b d r : Int} {p : Int × Int} (ha : 0 ≤ a) (hb : b ≤ r)
    (h : p ∈ circleStepsFrom fuel a b d) : 0 ≤ p.1 ∧ p.1 ≤ p.2 ∧ p.2 ≤ r := by
  induction fuel generalizing a b d with
  | zero => simp [circleStepsFrom] at h
  | succ fuel ih =>
    unfold circleStepsFrom at h
    split at h
    · rcases List.mem_cons.1 h with rfl | h
      · exact ⟨ha, ‹_›, hb⟩
      · split at h
        · exact ih (by omega) hb h
        · exact ih (by omega) (by omega) h
    · simp at h

theorem mem_circleSteps {r : Int} {p : Int × Int} (h : p ∈ circleSteps r) : 0 ≤ p.1 ∧ p.1 ≤ p.2 ∧ p.2 ≤ r :=
  mem_circleStepsFrom le_rfl le_rfl h

theorem mem_of_mem_keepFirst {seen ps : List (Int × Int)} {p : Int × Int} (h : p ∈ keepFirst seen ps) : p ∈ ps := by
  induction ps generalizing seen with
  | nil => exact h
  | cons q ps ih =>
    unfold keepFirst at h
    split at h
    · exact List.mem_cons_of_mem _ (ih h)
    · rcases List.mem_cons.1 h with rfl | h
      · exact List.mem_cons_self
      · exact List.mem_cons_of_mem _ (ih h)

/-- The symmetric points of an offset in the octant of `r` lie in the bounding square (R104). -/
theorem mem_oct8 {xc yc a b r : Int} {p : Int × Int} (ha : 0 ≤ a) (hab : a ≤ b) (hb : b ≤ r)
    (h : p ∈ oct8 xc yc a b) : (xc - r ≤ p.1 ∧ p.1 ≤ xc + r) ∧ yc - r ≤ p.2 ∧ p.2 ≤ yc + r := by
  have h := mem_of_mem_keepFirst h
  simp only [List.mem_cons, List.not_mem_nil, or_false] at h
  rcases h with rfl | rfl | rfl | rfl | rfl | rfl | rfl | rfl <;> dsimp only <;> omega

theorem intRange_eq_map (a b : Int) : intRange a b = (List.range (b - a + 1).toNat).map fun k : Nat => a + k := by
  simp [intRange, Function.comp_def, ← List.map_eq_flatMap]

theorem mem_intRange {a b i : Int} : i ∈ intRange a b ↔ a ≤ i ∧ i ≤ b := by
  simp only [intRange_eq_map, List.mem_map, List.mem_range]
  constructor
  · rintro ⟨k, hk, rfl⟩
    omega
  · intro h
    exact ⟨(i - a).toNat, by omega, by omega⟩

theorem mem_circlePoints {xc yc r : Int} {p : Int × Int} (h : p ∈ circlePoints xc yc r) :
    (xc - r ≤ p.1 ∧ p.1 ≤ xc + r) ∧ yc - r ≤ p.2 ∧ p.2 ≤ yc + r := by
  obtain ⟨ab, hab, hp⟩ := List.mem_flatMap.1 h
  obtain ⟨ha, hle, hb⟩ := mem_circleSteps hab
  exact mem_oct8 ha hle hb hp

theorem mem_discPoints {xc yc r : Int} {p : Int × Int} (h : p ∈ discPoints xc yc r) :
    (xc - r ≤ p.1 ∧ p.1 ≤ xc + r) ∧ yc - r ≤ p.2 ∧ p.2 ≤ yc + r := by
  obtain ⟨ab, hab, h⟩ := List.mem_flatMap.1 h
  obtain ⟨i, hi, hp⟩ := List.mem_flatMap.1 h
  obtain ⟨ha, -, hb⟩ := mem_circleSteps hab
  obtain ⟨hai, hib⟩ := mem_intRange.1 hi
  exact mem_oct8 ha hai (hib.trans hb) hp

/-- The bounding square of an accepted circle is on screen (R106, R132). -/
theorem onScreen_of_square {c : LatchedCfg} {xc yc r : Int} {p : Int × Int} (h : circleOnScreen c xc yc r = true)
    (hp : (xc - r ≤ p.1 ∧ p.1 ≤ xc + r) ∧ yc - r ≤ p.2 ∧ p.2 ≤ yc + r) : onScreen c p.1 p.2 = true := by
  simp only [circleOnScreen, Bool.and_eq_true, decide_eq_true_eq] at h
  exact onScreen_iff.2 (by omega)

/-! ## Triangles (R108 to R110) -/

/-- `n` scanlines in closed form (R110). -/
theorem scanRows_eq_map (xa dxa dya xb dxb dyb : Int) (n : Nat) (y sa sb : Int) :
    scanRows xa dxa dya xb dxb dyb n y sa sb =
      (List.range n).map fun k : Nat =>
        orderedSpan (y + k) (xa + Int.tdiv (sa + dxa * k) dya) (xb + Int.tdiv (sb + dxb * k) dyb) := by
  induction n generalizing y sa sb with
  | zero => rfl
  | succ n ih =>
    rw [scanRows, ih, List.range_succ_eq_map, List.map_cons, List.map_map]
    simp only [Nat.cast_zero, mul_zero, add_zero]
    congr 1
    refine List.map_congr_left fun k _ => ?_
    simp only [Function.comp_apply, Nat.cast_succ]
    ring_nf

/-- A truncated part of a distance lies between 0 and the distance. -/
theorem tdiv_between {dx k n : Int} (hk : 0 ≤ k) (hkn : k ≤ n) :
    min 0 dx ≤ Int.tdiv (dx * k) n ∧ Int.tdiv (dx * k) n ≤ max 0 dx := by
  have hpos : ∀ e : Int, 0 ≤ e → 0 ≤ Int.tdiv (e * k) n ∧ Int.tdiv (e * k) n ≤ e := by
    intro e he
    have h0 : 0 ≤ e * k := Int.mul_nonneg he hk
    refine ⟨Int.tdiv_nonneg h0 (hk.trans hkn), ?_⟩
    rw [Int.tdiv_eq_ediv_of_nonneg h0]
    rcases (hk.trans hkn).eq_or_lt with rfl | hn
    · simpa using he
    · exact Int.ediv_le_of_le_mul hn (Int.mul_le_mul_of_nonneg_left hkn he)
  rcases le_total 0 dx with h | h
  · have := hpos dx h
    omega
  · have := hpos (-dx) (by omega)
    rw [Int.neg_mul, Int.neg_tdiv] at this
    omega

/-- A span whose two columns lie between `lo` and `hi` is ordered and lies there too (R110). -/
theorem orderedSpan_between {y a b lo hi : Int} (ha : lo ≤ a ∧ a ≤ hi) (hb : lo ≤ b ∧ b ≤ hi) :
    (orderedSpan y a b).1 = y ∧ lo ≤ (orderedSpan y a b).2.1 ∧ (orderedSpan y a b).2.1 ≤ (orderedSpan y a b).2.2 ∧
      (orderedSpan y a b).2.2 ≤ hi := by
  unfold orderedSpan
  split <;> dsimp only <;> omega

/-- The box a span must lie in: an ordered run of columns in a row (R111). -/
def SpanInBox (xlo xhi ylo yhi : Int) (sp : ScanSpan) : Prop :=
  (ylo ≤ sp.1 ∧ sp.1 ≤ yhi) ∧ xlo ≤ sp.2.1 ∧ sp.2.1 ≤ sp.2.2 ∧ sp.2.2 ≤ xhi

/-- Rows `y` to `y + n - 1` of a half whose edges run from `(xa, ya)` by `(dxa, dya)` and from `(xb, yb)` by
`(dxb, dyb)` lie between the edges' ends (R110). -/
theorem scanRows_inBox {xa ya dxa dya xb yb dxb dyb xlo xhi y : Int} {n : Nat}
    (ha : xlo ≤ xa ∧ xa ≤ xhi) (ha' : xlo ≤ xa + dxa ∧ xa + dxa ≤ xhi)
    (hb : xlo ≤ xb ∧ xb ≤ xhi) (hb' : xlo ≤ xb + dxb ∧ xb + dxb ≤ xhi)
    (hya : ya ≤ y) (hyb : yb ≤ y) (hna : y + n ≤ ya + dya + 1) (hnb : y + n ≤ yb + dyb + 1) :
    ∀ sp ∈ scanRows xa dxa dya xb dxb dyb n y (dxa * (y - ya)) (dxb * (y - yb)),
      SpanInBox xlo xhi y (y + n - 1) sp := by
  intro sp hsp
  rw [scanRows_eq_map, List.mem_map] at hsp
  obtain ⟨k, hk, rfl⟩ := hsp
  have hk := List.mem_range.1 hk
  have hta := tdiv_between (dx := dxa) (by omega : 0 ≤ y - ya + k) (by omega : y - ya + k ≤ dya)
  have htb := tdiv_between (dx := dxb) (by omega : 0 ≤ y - yb + k) (by omega : y - yb + k ≤ dyb)
  rw [Int.mul_add] at hta htb
  obtain ⟨hrow, hcols⟩ := orderedSpan_between (y := y + k) (lo := xlo) (hi := xhi)
    (a := xa + Int.tdiv (dxa * (y - ya) + dxa * k) dya) (b := xb + Int.tdiv (dxb * (y - yb) + dxb * k) dyb)
    (by omega) (by omega)
  exact ⟨by omega, hcols⟩

theorem SpanInBox.mono {xlo xhi ylo yhi ylo' yhi' : Int} {sp : ScanSpan} (h : SpanInBox xlo xhi ylo yhi sp)
    (hlo : ylo' ≤ ylo) (hhi : yhi ≤ yhi') : SpanInBox xlo xhi ylo' yhi' sp :=
  ⟨⟨hlo.trans h.1.1, h.1.2.trans hhi⟩, h.2⟩

/-- The spans of a triangle with sorted vertices lie in any box of columns that holds the vertices, and in their rows
(R110, R111). -/
theorem sortedSpans_inBox {p0 p1 p2 : Int × Int} {xlo xhi : Int} (h01 : p0.2 ≤ p1.2) (h12 : p1.2 ≤ p2.2)
    (h0 : xlo ≤ p0.1 ∧ p0.1 ≤ xhi) (h1 : xlo ≤ p1.1 ∧ p1.1 ≤ xhi) (h2 : xlo ≤ p2.1 ∧ p2.1 ≤ xhi) :
    ∀ sp ∈ sortedSpans p0 p1 p2, SpanInBox xlo xhi p0.2 p2.2 sp := by
  intro sp hsp
  unfold sortedSpans at hsp
  split at hsp
  · obtain rfl := List.mem_singleton.1 hsp
    exact ⟨⟨le_rfl, by omega⟩, by dsimp only; omega⟩
  · have hzero : ∀ dx : Int, dx * (p0.2 - p0.2) = 0 := fun dx => by rw [Int.sub_self, Int.mul_zero]
    rcases List.mem_append.1 hsp with hsp | hsp
    · have hbox := scanRows_inBox (xa := p0.1) (ya := p0.2) (dxa := p1.1 - p0.1) (dya := p1.2 - p0.2) (xb := p0.1)
        (yb := p0.2) (dxb := p2.1 - p0.1) (dyb := p2.2 - p0.2) (y := p0.2) (xlo := xlo) (xhi := xhi)
        (n := ((if p1.2 = p2.2 then p1.2 else p1.2 - 1) - p0.2 + 1).toNat) (by omega) (by omega) (by omega) (by omega)
        le_rfl le_rfl (by split <;> omega) (by split <;> omega)
      rw [hzero, hzero] at hbox
      exact (hbox sp hsp).mono le_rfl (by split <;> omega)
    · have hbox := scanRows_inBox (xa := p1.1) (ya := p1.2) (dxa := p2.1 - p1.1) (dya := p2.2 - p1.2) (xb := p0.1)
        (yb := p0.2) (dxb := p2.1 - p0.1) (dyb := p2.2 - p0.2)
        (y := (if p1.2 = p2.2 then p1.2 else p1.2 - 1) + 1) (xlo := xlo) (xhi := xhi)
        (n := (p2.2 - ((if p1.2 = p2.2 then p1.2 else p1.2 - 1) + 1) + 1).toNat) (by omega) (by omega) (by omega)
        (by omega) (by split <;> omega) (by split <;> omega) (by split <;> omega) (by split <;> omega)
      exact (hbox sp hsp).mono (by split <;> omega) (by split <;> omega)

/-- The three swaps order the vertices by row and only move them about (R109). -/
theorem sortY_spec (p0 p1 p2 : Int × Int) :
    ((sortY p0 p1 p2).1.2 ≤ (sortY p0 p1 p2).2.1.2 ∧ (sortY p0 p1 p2).2.1.2 ≤ (sortY p0 p1 p2).2.2.2) ∧
      ∀ P : Int × Int → Prop, P p0 → P p1 → P p2 →
        P (sortY p0 p1 p2).1 ∧ P (sortY p0 p1 p2).2.1 ∧ P (sortY p0 p1 p2).2.2 := by
  simp only [sortY, swapByRow]
  split_ifs <;> simp_all <;> omega

/-- The spans of a triangle lie in any box that holds its vertices (R111). -/
theorem triangleSpans_inBox {p0 p1 p2 : Int × Int} {xlo xhi ylo yhi : Int}
    (h : ∀ p ∈ [p0, p1, p2], (xlo ≤ p.1 ∧ p.1 ≤ xhi) ∧ ylo ≤ p.2 ∧ p.2 ≤ yhi) :
    ∀ sp ∈ triangleSpans p0 p1 p2, SpanInBox xlo xhi ylo yhi sp := by
  intro sp hsp
  obtain ⟨⟨h01, h12⟩, hmoved⟩ := sortY_spec p0 p1 p2
  obtain ⟨⟨hx0, hy0⟩, ⟨hx1, -⟩, hx2, hy2⟩ :=
    hmoved (fun p => (xlo ≤ p.1 ∧ p.1 ≤ xhi) ∧ ylo ≤ p.2 ∧ p.2 ≤ yhi) (h p0 (by simp)) (h p1 (by simp)) (h p2 (by simp))
  exact (sortedSpans_inBox h01 h12 hx0 hx1 hx2 sp hsp).mono hy0.1 hy2.2

end Sys2Proof.Machine
end

section
/-! Proofs of family `10_state`, part 4: what every command's expansion is made of (R75, R92, R94, R117, R132), and the
statements about its marks. -/

namespace Sys2Proof.Machine

/-! ## Text (R114 to R123) -/

theorem glyphSizeOk_iff {s : Nat} : glyphSizeOk s = true ↔ s = 12 ∨ s = 16 := by simp [glyphSizeOk]

theorem runFits_iff {c : LatchedCfg} {x y : Int} {n s : Nat} :
    runFits c x y n s = true ↔ x + (n : Int) * (glyphWidth s : Int) - 1 < c.w ∧ y + (s : Int) - 1 < c.h := by
  simp [runFits]

theorem mem_glyphCells {s : Nat} {p : Nat × Nat} : p ∈ glyphCells s ↔ p.1 < glyphWidth s ∧ p.2 < s := by
  obtain ⟨col, row⟩ := p
  simp only [glyphCells, List.mem_flatMap, List.mem_map, List.mem_range, Prod.mk.injEq]
  constructor
  · rintro ⟨r, hr, k, hk, rfl, rfl⟩
    exact ⟨hk, hr⟩
  · rintro ⟨hcol, hrow⟩
    exact ⟨row, hrow, col, hcol, rfl, rfl⟩

theorem digitCodesFrom_length (v n : Nat) (shown : Bool) : (digitCodesFrom v n shown).length = n := by
  induction n generalizing shown with
  | zero => rfl
  | succ n ih =>
    unfold digitCodesFrom
    split <;> rw [List.length_cons, ih]

theorem digitCodes_length (v n : Nat) : (digitCodes v n).length = n := digitCodesFrom_length v n false

/-- A glyph whose cell is on screen places its windows there (R115, R116). -/
theorem glyph_placesWindows {c : LatchedCfg} {x y : Int} {s : Nat} (hs : glyphSizeOk s = true) (hx0 : 0 ≤ x)
    (hx : x + (glyphWidth s : Int) ≤ c.w) (hy0 : 0 ≤ y) (hy : y + (s : Int) ≤ c.h) (rom : GlyphRom) (fg bg : Half)
    (code : Nat) (ov : Bool) : PlacesWindows c (glyph c rom x y fg bg code s ov) := by
  cases ov with
  | false =>
    have hcell : validWin c x y (x + (glyphWidth s : Int) - 1) (y + (s : Int) - 1) = true := by
      have hpos : 0 < glyphWidth s ∧ 0 < s := by
        rcases glyphSizeOk_iff.1 hs with rfl | rfl <;> decide
      exact validWin_iff.2 ⟨by omega, by omega⟩
    exact (winSeq_placesWindows fun _ _ => hcell).append (.txs (glyphCells s) _)
  | true =>
    refine plots_placesWindows (fun p hp => ?_) fg
    obtain ⟨q, hq, rfl⟩ := List.mem_map.1 hp
    have hq := mem_glyphCells.1 (List.mem_filter.1 hq).1
    exact onScreen_iff.2 (by dsimp only; omega)

/-- A run of glyphs that fits the screen places its windows there (R120, R121, R123). -/
theorem glyphRun_placesWindows {c : LatchedCfg} {x y : Int} {s : Nat} (codes : List Nat) (hs : glyphSizeOk s = true)
    (hx0 : 0 ≤ x) (hx : x + (codes.length : Int) * (glyphWidth s : Int) ≤ c.w) (hy0 : 0 ≤ y)
    (hy : y + (s : Int) ≤ c.h) (rom : GlyphRom) (fg bg : Half) (ov : Bool) :
    PlacesWindows c (glyphRun c rom y fg bg s ov x codes) := by
  induction codes generalizing x with
  | nil => exact .nil
  | cons code codes ih =>
    have hrun : ((code :: codes).length : Int) * (glyphWidth s : Int) =
        (codes.length : Int) * (glyphWidth s : Int) + glyphWidth s := by
      rw [List.length_cons]
      push_cast
      ring
    have hrest : (0 : Int) ≤ (codes.length : Int) * (glyphWidth s : Int) := by positivity
    rw [hrun] at hx
    exact (glyph_placesWindows hs hx0 (by omega) hy0 hy rom fg bg code ov).append (ih (by omega) (by omega))

/-! ## Every expansion -/

theorem PlacesWindows.ite {c : LatchedCfg} {p : Prop} [Decidable p] {e e' : Expansion}
    (h : p → PlacesWindows c e.list) (h' : ¬p → PlacesWindows c e'.list) :
    PlacesWindows c (if p then e else e').list := by
  split
  · exact h ‹p›
  · exact h' ‹¬p›

/-- A command that is rejected unless its check passes places what it draws after the check (R134). -/
theorem PlacesWindows.checked {c : LatchedCfg} {p : Prop} [Decidable p] {e : Expansion} {code : ErrCode}
    (h : p → PlacesWindows c e.list) : PlacesWindows c (if p then e else .error code).list :=
  .ite h fun _ => .nil

theorem Latch.int_nonneg (l : Latch) (i : Fin 8) : 0 ≤ l.int i := Int.natCast_nonneg _

/-- Every mark of every expansion but those of `WRCMD` and `SETORIENT` is a window on the latched screen (R92, R132). -/
theorem expandOf_placesWindows {i : Instr} (hw : i ≠ .wrcmd) (ho : i ≠ .setorient) (v : View) :
    PlacesWindows v.latch.cfg (expandOf i v).list := by
  have h0 := v.latch.int_nonneg 0
  have h1 := v.latch.int_nonneg 1
  cases i with
  | wrcmd => exact absurd rfl hw
  | setorient => exact absurd rfl ho
  | nop => exact .nil
  | wrdata8 => exact .tx _
  | wrdata16 => exact .tx _
  | setwin => exact .checked fun h => winSeq_placesWindows fun _ _ => h
  | point => exact .checked fun h => drawn_placesWindows (plot_placesWindows h _)
  | line =>
    refine .checked fun h => drawn_placesWindows (plots_placesWindows ?_ _)
    obtain ⟨hp, hq⟩ := (Bool.and_eq_true _ _).mp h
    exact linePoints_onScreen hp hq
  | rect =>
    refine .checked fun h => drawn_placesWindows (plots_placesWindows (fun p hp => ?_) _)
    have hwin := validWin_iff.1 h
    simp only [rectPoints, List.mem_append] at hp
    rcases hp with ((hp | hp) | hp) | hp <;> have hbox := mem_linePoints hp <;> exact onScreen_iff.2 (by omega)
  | rectf =>
    exact .checked fun h =>
      drawn_placesWindows ((winSeq_placesWindows fun _ _ => h).append (solidPixels_placesWindows _ _))
  | circle =>
    exact .checked fun h => drawn_placesWindows
      (plots_placesWindows (fun p hp => onScreen_of_square h (mem_circlePoints hp)) _)
  | circlef =>
    exact .checked fun h => drawn_placesWindows
      (plots_placesWindows (fun p hp => onScreen_of_square h (mem_discPoints hp)) _)
  | tri =>
    refine .checked fun h => drawn_placesWindows (plots_placesWindows (fun p hp => ?_) _)
    simp only [verticesOnScreen, Bool.and_eq_true] at h
    obtain ⟨⟨ha, hb⟩, hc⟩ := h
    simp only [trianglePoints, List.mem_append] at hp
    rcases hp with (hp | hp) | hp
    · exact linePoints_onScreen ha hb p hp
    · exact linePoints_onScreen hb hc p hp
    · exact linePoints_onScreen hc ha p hp
  | trif =>
    refine .checked fun h => drawn_placesWindows (.flatMap fun sp hsp => ?_)
    simp only [verticesOnScreen, Bool.and_eq_true, onScreen_iff] at h
    obtain ⟨⟨hrow0, hrow1⟩, hcols⟩ := triangleSpans_inBox (xlo := 0) (xhi := v.latch.cfg.w - 1) (ylo := 0)
      (yhi := v.latch.cfg.h - 1) (by simp only [Latch.vertex, List.forall_mem_cons]; simp; omega) sp hsp
    exact (winSeq_placesWindows fun _ _ => validWin_iff.2 ⟨by omega, by omega⟩).append (solidPixels_placesWindows _ _)
  | textchar ov =>
    refine .ite (fun _ => .nil) fun hs => .ite (fun _ => .nil) fun _ => .ite (fun _ => .nil) fun hfit => ?_
    simp only [Bool.not_eq_true', Bool.not_eq_false, runFits_iff] at hs hfit
    exact finish_placesWindows (glyph_placesWindows hs h0 (by omega) h1 (by omega) _ _ _ _ ov)
  | textstr ov =>
    refine .ite (fun _ => .nil) fun hs => .ite (fun _ => .nil) fun _ => .ite (fun _ => .nil) fun hfit => ?_
    simp only [Bool.not_eq_true', Bool.not_eq_false, runFits_iff] at hs hfit
    exact finish_placesWindows (glyphRun_placesWindows _ hs h0 (by omega) h1 (by omega) _ _ _ ov)
  | textctr ov =>
    refine .ite (fun _ => .nil) fun hs => .ite (fun _ => .nil) fun _ => .ite (fun _ => .nil) fun hfit => ?_
    simp only [Bool.not_eq_true', Bool.not_eq_false] at hs
    exact finish_placesWindows
      (glyphRun_placesWindows _ hs (by omega) (by omega) (by omega) (by omega) _ _ _ ov)
  | numeric ov =>
    refine .ite (fun _ => .nil) fun _ => .ite (fun _ => .nil) fun hs => .ite (fun _ => .nil) fun hfit => ?_
    simp only [Bool.not_eq_true', Bool.not_eq_false, runFits_iff] at hs hfit
    refine finish_placesWindows (glyphRun_placesWindows _ hs h0 ?_ h1 (by omega) _ _ _ ov)
    rw [digitCodes_length]
    omega
  | blit =>
    refine .checked fun h => ?_
    simp only [Bool.and_eq_true] at h
    exact drawn_placesWindows ((winSeq_placesWindows fun _ _ => h.2).append (.txs _ _))
  | fillscr =>
    exact .ite (fun _ => (fullWin_placesWindows.append (.tx _)).append fullWin_placesWindows) fun _ =>
      (fullWin_placesWindows.append (solidPixels_placesWindows _ _)).append fullWin_placesWindows

/-- A direction that `SETORIENT` accepts is the operand itself (R127). -/
theorem setorient_mark {v : View} {m : Mark} (h : .mark m ∈ (expandSetorient v).list) :
    m = .winInvalid ∨ ∃ d, m = .setOrient d ∧ d.toNat = (v.latch.args.get 0).toNat := by
  simp only [expandSetorient] at h
  split at h
  · cases h
  · next hdir =>
    have hlt : (v.latch.args.get 0).toNat < 2 ^ 2 := by
      simp only [Latch.nat] at hdir
      omega
    simp only [Expansion.list, List.mem_cons, Item.mark.injEq, reduceCtorEq, List.not_mem_nil, or_false, false_or] at h
    rcases h with h | h
    · exact .inl h
    · exact .inr ⟨_, h, by rw [Latch.nat, BitVec.toNat_ofNat, Nat.mod_eq_of_lt hlt]⟩

theorem wrcmd_mark {v : View} {m : Mark} (h : .mark m ∈ (expandWrcmd v).list) : m = .winInvalid := by
  simpa [expandWrcmd, Expansion.list] using h

/-- Every mark of every expansion is a window on the latched screen, or the `WinInvalid` mark of `WRCMD` and
`SETORIENT`, or the `SetOrient` mark of `SETORIENT` (R89, R92, R127). -/
theorem expandOf_mark {i : Instr} {v : View} {m : Mark} (h : .mark m ∈ (expandOf i v).list) :
    (∃ x0 y0 x1 y1, m = windowMark x0 y0 x1 y1 ∧
      (1 ≤ v.latch.cfg.w → 1 ≤ v.latch.cfg.h → validWin v.latch.cfg x0 y0 x1 y1 = true)) ∨
    ((i = .wrcmd ∨ i = .setorient) ∧ m = .winInvalid) ∨
    (i = .setorient ∧ ∃ d, m = .setOrient d ∧ d.toNat = (v.latch.args.get 0).toNat) := by
  by_cases hw : i = .wrcmd
  · subst hw
    exact .inr (.inl ⟨.inl rfl, wrcmd_mark h⟩)
  · by_cases ho : i = .setorient
    · subst ho
      rcases setorient_mark h with hm | hm
      · exact .inr (.inl ⟨.inr rfl, hm⟩)
      · exact .inr (.inr ⟨rfl, hm⟩)
    · exact .inl (expandOf_placesWindows hw ho v m h)

/-- Every mark of every expansion lies within a screen of legal dimensions (R92, R132). -/
theorem expandOf_mark_within {i : Instr} {v : View} (hw : dimOk v.latch.cfg.width) (hh : dimOk v.latch.cfg.height)
    {m : Mark} (h : .mark m ∈ (expandOf i v).list) : m.within v.latch.cfg := by
  rcases expandOf_mark h with ⟨x0, y0, x1, y1, rfl, hvalid⟩ | ⟨-, rfl⟩ | ⟨-, d, rfl, -⟩
  · exact windowMark_within (hvalid (Int.ofNat_le.2 hw.1) (Int.ofNat_le.2 hh.1)) hw hh
  · trivial
  · trivial

/-- Settles O50: each command passes its check before it places a window. -/
theorem everyProgrammedWindowIsOnScreen : Obligations.EveryProgrammedWindowIsOnScreen :=
  fun _ _ hw hh _ hm => expandOf_mark_within hw hh (mem_marksOf.1 hm)

/-! ## How a drawing ends, and who takes the bulk buffer (R50, R94, R117) -/

/-- What a drawing command but `FILLSCR` can expand to: an error, nothing, or a body and the restore (R94, R117). -/
inductive DrawsThenRestores (c : LatchedCfg) : Expansion → Prop where
  | error (code : ErrCode) : DrawsThenRestores c (.error code)
  | nothing : DrawsThenRestores c (.items [] false none)
  | drawn (body : List Item) : DrawsThenRestores c (drawn c body)

section
variable {c : LatchedCfg}

theorem DrawsThenRestores.ite {p : Prop} [Decidable p] {e e' : Expansion} (h : DrawsThenRestores c e)
    (h' : DrawsThenRestores c e') : DrawsThenRestores c (if p then e else e') := by
  split
  · exact h
  · exact h'

theorem DrawsThenRestores.checked {p : Prop} [Decidable p] (body : List Item) (code : ErrCode) :
    DrawsThenRestores c (if p then Machine.drawn c body else .error code) := .ite (.drawn body) (.error code)

theorem DrawsThenRestores.finish (body : List Item) : DrawsThenRestores c (finish c body) :=
  .ite (.drawn body) .nothing

end

theorem expandOf_drawsThenRestores {i : Instr} (hd : isDrawing i = true) (hi : i ≠ .fillscr) (v : View) :
    DrawsThenRestores v.latch.cfg (expandOf i v) := by
  cases i with
  | fillscr => exact absurd rfl hi
  | point => exact .checked _ _
  | line => exact .checked _ _
  | rect => exact .checked _ _
  | rectf => exact .checked _ _
  | circle => exact .checked _ _
  | circlef => exact .checked _ _
  | tri => exact .checked _ _
  | trif => exact .checked _ _
  | blit => exact .checked _ _
  | textchar ov => exact .ite (.error _) (.ite (.error _) (.ite (.error _) (.finish _)))
  | textstr ov => exact .ite (.error _) (.ite .nothing (.ite (.error _) (.finish _)))
  | textctr ov => exact .ite (.error _) (.ite .nothing (.ite (.error _) (.finish _)))
  | numeric ov => exact .ite .nothing (.ite (.error _) (.ite (.error _) (.finish _)))
  | _ => cases hd

/-- The items of a drawing that emits anything end with the restore (R94). -/
theorem drawing_ends_with_fullWin {i : Instr} (hd : isDrawing i = true) {v : View} {its : List Item} {fb : Bool}
    {b : Option BulkBuffer} (h : expandOf i v = .items its fb b) (hne : its ≠ []) :
    ∃ body, its = body ++ fullWin v.latch.cfg := by
  by_cases hi : i = .fillscr
  · subst hi
    simp only [expandOf, expandFillscr] at h
    split at h <;> cases h <;> exact ⟨_, rfl⟩
  · have hshape := expandOf_drawsThenRestores hd hi v
    rw [h] at hshape
    cases hshape with
    | nothing => exact absurd rfl hne
    | drawn body => exact ⟨body, rfl⟩

/-- No command but `FILLSCR` sets `FALLBACK` or takes the bulk buffer (R22, R50, R125). -/
theorem expandOf_plain {i : Instr} (hi : i ≠ .fillscr) {v : View} {its : List Item} {fb : Bool}
    {b : Option BulkBuffer} (h : expandOf i v = .items its fb b) : fb = false ∧ b = none := by
  cases hd : isDrawing i with
  | true =>
    have hshape := expandOf_drawsThenRestores hd hi v
    rw [h] at hshape
    cases hshape <;> exact ⟨rfl, rfl⟩
  | false =>
    cases i with
    | nop => cases h; exact ⟨rfl, rfl⟩
    | wrcmd => cases h; exact ⟨rfl, rfl⟩
    | wrdata8 => cases h; exact ⟨rfl, rfl⟩
    | wrdata16 => cases h; exact ⟨rfl, rfl⟩
    | setwin =>
      simp only [expandOf, expandSetwin] at h
      split at h <;> cases h
      exact ⟨rfl, rfl⟩
    | setorient =>
      simp only [expandOf, expandSetorient] at h
      split at h <;> cases h
      exact ⟨rfl, rfl⟩
    | _ => cases hd

/-! ## What an expansion reads (R35, R40, R76) -/

/-- Settles O41: the expansion of any other command does not mention the memory, the ROM or the grant. -/
theorem onlyNamedCommandsReadMemoryRomGrant : Obligations.OnlyNamedCommandsReadMemoryRomGrant := by
  refine fun i v m rom g => ⟨fun hstr hctr hblit => ?_, fun hchar hstr hctr hnum => ?_, fun hfill => ?_⟩
  · cases i with
    | textstr ov => exact absurd rfl (hstr ov)
    | textctr ov => exact absurd rfl (hctr ov)
    | blit => exact absurd rfl hblit
    | _ => rfl
  · cases i with
    | textchar ov => exact absurd rfl (hchar ov)
    | textstr ov => exact absurd rfl (hstr ov)
    | textctr ov => exact absurd rfl (hctr ov)
    | numeric ov => exact absurd rfl (hnum ov)
    | _ => rfl
  · cases i with
    | fillscr => exact absurd rfl hfill
    | _ => rfl

/-- Whatever memory a command reads, it sets the same `FALLBACK` and takes the same bulk buffer (R22, R46, R50). -/
theorem expandOf_mem_fallback_bulk {i : Instr} {v : View} {m : List Host.Cell} {its its' : List Item} {fb fb' : Bool}
    {b b' : Option BulkBuffer} (h : expandOf i v = .items its fb b)
    (h' : expandOf i { v with mem := m } = .items its' fb' b') : fb' = fb ∧ b' = b := by
  by_cases hi : i = .fillscr
  · subst hi
    have hsame : expandOf .fillscr { v with mem := m } = expandOf .fillscr v := rfl
    rw [hsame, h] at h'
    cases h'
    exact ⟨rfl, rfl⟩
  · obtain ⟨rfl, rfl⟩ := expandOf_plain hi h
    exact expandOf_plain hi h'

end Sys2Proof.Machine
end

section
/-! Proofs of family `10_state`, part 5: the invariant of the machine, kept by every operation and so by every step
(R20, R28, R34, R92, R136). -/

namespace Sys2Proof.Machine

/-! ## What accepting a command establishes (R35) -/

theorem dimLegal_iff {v : Half} : dimLegal v = true ↔ dimOk v := by
  rw [dimLegal, Bool.and_eq_true, decide_eq_true_eq, decide_eq_true_eq]
  rfl

theorem dimOk_panelWReset : dimOk Config.panelWReset := ⟨by decide, by decide⟩

theorem dimOk_panelHReset : dimOk Config.panelHReset := ⟨by decide, by decide⟩

theorem State.Inv.width {s : State} (h : s.Inv) : dimOk s.width := by
  unfold State.width
  split
  · exact h.panelH
  · exact h.panelW

theorem State.Inv.height {s : State} (h : s.Inv) : dimOk s.height := by
  unfold State.height
  split
  · exact h.panelW
  · exact h.panelH

/-- A word that expands to items is a command's own word (R75, R78). -/
theorem decode_of_expandWord_items {w : Word} {v : View} {its : List Item} {fb : Bool} {b : Option BulkBuffer}
    (h : expandWord w v = .items its fb b) : ∃ i, decode w = .ok i ∧ expandOf i v = .items its fb b := by
  unfold expandWord at h
  split at h
  · exact ⟨_, ‹_›, h⟩
  · cases h

/-- Issuing a word keeps the invariant: dropped, rejected, complete at once, or started on its expansion (R16, R35). -/
theorem State.Inv.issue {s : State} (h : s.Inv) (w : Word) : (s.issue w (expandWord w)).Inv := by
  rcases s.issue_cases w (expandWord w) with ⟨-, hs⟩ | ⟨hp, c, -, hs⟩ | ⟨hp, fb, b, -, hs⟩ |
    ⟨hp, its, fb, b, hne, he, hs⟩ <;> rw [hs]
  · exact ⟨h.panelW, h.panelH, h.mem, h.seenMem, h.idle, h.busy, h.stalled⟩
  · exact ⟨h.panelW, h.panelH, h.mem, h.mem, h.idle, fun hb => (nomatch hp.symm.trans hb), h.stalled⟩
  · exact ⟨h.panelW, h.panelH, h.mem, h.mem, h.idle, fun hb => (nomatch hp.symm.trans hb), h.stalled⟩
  · obtain ⟨-, -, hstall⟩ := h.idle hp
    obtain ⟨i, hi, he⟩ := decode_of_expandWord_items he
    exact ⟨h.panelW, h.panelH, h.mem, h.mem, nofun,
      fun _ => ⟨hne, rfl, rfl, h.width, h.height, i, its, hi, he, rfl⟩,
      fun hb => (nomatch hstall.symm.trans hb)⟩

/-! ## What the engine and the other agents keep -/

theorem State.Inv.applyMark {s : State} (h : s.Inv) (m : Mark) : (s.applyMark m).Inv := by
  cases m <;> exact ⟨h.panelW, h.panelH, h.mem, h.seenMem, h.idle, h.busy, h.stalled⟩

theorem State.Inv.carry {s : State} (h : s.Inv) (t : Tx) : (s.carry t).Inv :=
  ⟨h.panelW, h.panelH, h.mem, h.seenMem, h.idle, h.busy, h.stalled⟩

/-- A state whose phase and bulk buffer follow its `Q`, as they do after every change of `Q`, has the invariant if the
command that is left is in order (R34, R36, R50). -/
theorem State.inv_of_rest {s : State} (hw : dimOk s.panelW) (hh : dimOk s.panelH) (hmem : Memory.wf s.mem = true)
    (hseen : Memory.wf s.seenMem = true) (hs : s.stalled = false)
    (hphase : s.phase = if s.q = [] then .idle else .busy) (hbulk : s.q = [] → s.bulk = none)
    (hrun : s.q ≠ [] → s.runningOk) : s.Inv := by
  refine ⟨hw, hh, hmem, hseen, fun hb => ?_, fun hb => ?_, fun hb => (nomatch hs.symm.trans hb)⟩
  · have hq : s.q = [] := by
      by_contra hne
      rw [if_neg hne, hb] at hphase
      cases hphase
    exact ⟨hq, hbulk hq, hs⟩
  · refine hrun fun hq => ?_
    rw [if_pos hq, hb] at hphase
    cases hphase

/-- Taking the performed item off `Q` leaves the rest of the expansion, or an idle engine (R36). -/
theorem State.Inv.advance {s : State} (h : s.Inv) (hp : s.phase = .busy) (hs : s.stalled = false) {it : Item}
    {rest : List Item} (hq : s.q = it :: rest) : (s.advance rest).Inv := by
  obtain ⟨-, herr, hword, hw, hh, i, its, hi, he, hdrop⟩ := h.busy hp
  refine State.inv_of_rest h.panelW h.panelH h.mem h.seenMem hs rfl (fun hnil => if_pos hnil) fun hne =>
    ⟨hne, herr, hword, hw, hh, i, its, hi, ?_, ?_⟩
  · have hbulk : (s.advance rest).bulk = s.bulk := if_neg hne
    rw [hbulk]
    exact he
  · rw [State.advance_q, State.advance_performed, ← List.tail_drop, ← hdrop, hq, List.tail_cons]

theorem State.Inv.engineStep {s : State} (h : s.Inv) (ans : BusAnswer) : (s.engineStep ans).Inv := by
  rcases s.engineStep_cases ans with ⟨hs, -⟩ | ⟨hp, hstall, ⟨m, rest, hq, hs⟩ | ⟨t, rest, hq, -, hs⟩ |
    ⟨t, rest, k, hq, -, hs⟩ | ⟨t, rest, hq, -, hs⟩ | ⟨hq, hs⟩⟩ <;> rw [hs]
  · exact h
  · refine (h.applyMark m).advance (it := .mark m) ?_ ?_ ?_ <;> cases m <;> assumption
  · exact (h.carry t).advance hp hstall hq
  · exact ⟨h.panelW, h.panelH, h.mem, h.seenMem, fun _ => ⟨rfl, rfl, hstall⟩, nofun,
      fun hb => (nomatch hstall.symm.trans hb)⟩
  · exact ⟨h.panelW, h.panelH, h.mem, h.seenMem, fun hb => (nomatch hp.symm.trans hb), h.busy, fun _ => ⟨t, rest, hq⟩⟩
  · exact absurd hq (h.busy hp).1

theorem State.Inv.writeReg {s : State} (h : s.Inv) (r : Reg) (v : Word) : (s.writeReg r v).Inv := by
  cases r with
  | panelW =>
    simp only [State.writeReg]
    split
    · exact ⟨dimLegal_iff.1 ‹_›, h.panelH, h.mem, h.seenMem, h.idle, h.busy, h.stalled⟩
    · exact h
  | panelH =>
    simp only [State.writeReg]
    split
    · exact ⟨h.panelW, dimLegal_iff.1 ‹_›, h.mem, h.seenMem, h.idle, h.busy, h.stalled⟩
    · exact h
  | _ => exact ⟨h.panelW, h.panelH, h.mem, h.seenMem, h.idle, h.busy, h.stalled⟩

theorem State.Inv.guardedWrite {s : State} (h : s.Inv) (r : Reg) (v : Word) : (s.guardedWrite r v).Inv := by
  rcases s.guardedWrite_cases r v with ⟨-, -, hs⟩ | ⟨-, hs⟩ <;> rw [hs]
  · exact ⟨h.panelW, h.panelH, h.mem, h.seenMem, h.idle, h.busy, h.stalled⟩
  · exact h.writeReg r v

/-- A command that reads bytes late goes on with the rest of the mixture's expansion, or is done (R46). -/
theorem State.Inv.lateRead {s : State} (h : s.Inv) (bytes : List RacingByte) : (s.lateRead bytes).Inv := by
  rcases s.lateRead_cases bytes with hs | ⟨hp, hstall, -, its', fb', b', he', -, hs⟩ <;> rw [hs]
  · exact h
  obtain ⟨-, herr, hword, hw, hh, i, its, hi, he, -⟩ := h.busy hp
  rw [State.expansionSeeing, hword, expandWord_of_decode hi] at he'
  obtain ⟨rfl, rfl⟩ := expandOf_mem_fallback_bulk he he'
  refine State.inv_of_rest h.panelW h.panelH h.mem (memWith_wf h.seenMem) hstall rfl (fun hnil => if_pos hnil)
    fun hne => ⟨hne, herr, hword, hw, hh, i, its', hi, ?_, rfl⟩
  have hbulk : (s.goOnSeeing (memWith s.seenMem bytes) its').bulk = s.bulk := if_neg hne
  rw [hbulk]
  exact he'

theorem State.Inv.resetCore {s : State} (h : s.Inv) (cut : Option Nat) : (s.resetCore cut).Inv :=
  ⟨dimOk_panelWReset, dimOk_panelHReset, h.mem, rfl, fun _ => ⟨rfl, rfl, rfl⟩, nofun, nofun⟩

theorem State.Inv.withAgenda {s : State} (h : s.Inv) (a : List Event) : (s.withAgenda a).Inv :=
  ⟨h.panelW, h.panelH, h.mem, h.seenMem, h.idle, h.busy, h.stalled⟩

/-- Every move keeps the invariant (R13). -/
theorem Made.inv {e : Event} {s t : State} (hm : Made e s t) (h : s.Inv) : t.Inv := by
  cases hm with
  | read off => exact ⟨h.panelW, h.panelH, h.mem, h.seenMem, h.idle, h.busy, h.stalled⟩
  | reserved off v => exact h
  | issue off v => exact h.issue v
  | write off v r => exact h.guardedWrite r v
  | engine ans => exact h.engineStep ans
  | reset cut => exact h.resetCore cut
  | memWrite addr b => exact ⟨h.panelW, h.panelH, State.platformWrite_wf h.mem, h.seenMem, h.idle, h.busy, h.stalled⟩
  | lateRead bytes => exact h.lateRead bytes

/-- Settles O48: a step is one move, and every move keeps the invariant. -/
theorem everyStepKeepsTheInvariant : Obligations.EveryStepKeepsTheInvariant := by
  intro s h
  obtain ⟨t, ht⟩ := step_answers_next s
  refine ⟨t, ht, ?_⟩
  rcases step_made ht with ⟨-, rfl⟩ | ⟨e, rest, -, hm⟩
  · exact h
  · exact hm.inv (h.withAgenda rest)

/-- Settles O49: the reset state is idle with legal dimensions, no memory listed and no valid window. -/
theorem resetHasTheInvariant : Obligations.ResetHasTheInvariant :=
  ⟨⟨dimOk_panelWReset, dimOk_panelHReset, State.reset_mem_wf, rfl, fun _ => ⟨rfl, rfl, rfl⟩, nofun, nofun⟩, rfl, nofun⟩

/-! ## The window shadow (R21, R32, R92) -/

theorem Mark.within.ordered {c : LatchedCfg} {m : Mark} (h : m.within c) : m.ordered := by
  cases m with
  | winShadow xs ys xe ye =>
    obtain ⟨hx, hy, -⟩ := h
    exact ⟨hx, hy⟩
  | winInvalid => trivial
  | setOrient d => trivial

/-- An item still to be performed is one of the running command's expansion (R34, R36). -/
theorem State.Inv.mark_ordered {s : State} (h : s.Inv) (hp : s.phase = .busy) {m : Mark} {rest : List Item}
    (hq : s.q = .mark m :: rest) : m.ordered := by
  obtain ⟨-, -, -, hw, hh, i, its, -, he, hdrop⟩ := h.busy hp
  have hmem : .mark m ∈ (expandOf i (s.runningView s.seenMem)).list := by
    rw [he]
    exact List.mem_of_mem_drop (hdrop ▸ hq ▸ List.mem_cons_self)
  exact (expandOf_mark_within hw hh hmem).ordered

theorem shadowOrdered_of_display {s t : State} (h : s.shadowOrdered) (hd : t.display = s.display) :
    t.shadowOrdered := by
  simp only [State.display, Prod.mk.injEq] at hd
  obtain ⟨hv, hxs, hys, hxe, hye, -⟩ := hd
  rw [State.shadowOrdered, hv, hxs, hys, hxe, hye]
  exact h

theorem shadowOrdered_applyMark {s : State} (h : s.shadowOrdered) {m : Mark} (hm : m.ordered) :
    (s.applyMark m).shadowOrdered := by
  cases m with
  | winShadow xs ys xe ye => exact fun _ => hm
  | winInvalid => exact nofun
  | setOrient d => exact h

theorem shadowOrdered_engineStep {s : State} (hinv : s.Inv) (h : s.shadowOrdered) (ans : BusAnswer) :
    (s.engineStep ans).shadowOrdered := by
  rcases s.engineStep_display_cases ans with hd | ⟨hp, m, rest, hq, hd⟩ | ⟨k, t, rest, -, -, hs⟩
  · exact shadowOrdered_of_display h hd
  · exact shadowOrdered_of_display (shadowOrdered_applyMark h (hinv.mark_ordered hp hq)) hd
  · rw [hs]
    exact nofun

/-- Settles O51: only the engine and reset change the shadow, and the marks of an expansion are ordered. -/
theorem validShadowStaysAWindow : Obligations.ValidShadowStaysAWindow := by
  intro s t hinv h ht
  rcases step_made ht with ⟨-, rfl⟩ | ⟨e, rest, -, hm⟩
  · exact h
  have h' : (s.withAgenda rest).shadowOrdered := h
  rcases hm.display_cases with hd | ⟨cut, -, rfl⟩ | ⟨ans, -, rfl⟩
  · exact shadowOrdered_of_display h' hd
  · exact nofun
  · exact shadowOrdered_engineStep (hinv.withAgenda rest) h' ans

end Sys2Proof.Machine
end

section
/-! Proofs of family `10_state`, part 6: what changes a register and what does not (R16, R21, R23, R26, R30, R31,
R33). -/

namespace Sys2Proof.Machine

/-! ## `OVERRUN` (R23) -/

theorem State.guardedWrite_overrun {r : Reg} (s : State) (hr : r ≠ .status) (v : Word) :
    (s.guardedWrite r v).overrun = s.overrun ∨
      (s.phase = .busy ∧ r.guarded = true ∧ (s.guardedWrite r v).overrun = true) := by
  rcases s.guardedWrite_cases r v with ⟨hp, hg, h⟩ | ⟨-, h⟩ <;> rw [h]
  · exact .inr ⟨hp, hg, rfl⟩
  · exact .inl (s.writeReg_overrun hr v)

/-- What a move can do to `OVERRUN`: nothing, a reset, a write to `STATUS`, a dropped write (R23). -/
theorem Made.overrun_cases {e : Event} {s t : State} (h : Made e s t) :
    t.overrun = s.overrun ∨ ((∃ cut, e = .reset cut) ∧ t.overrun = false) ∨
      (∃ off v, e = .hostWrite off v ∧ off.toNat / 4 = 1 ∧ t.overrun = (s.overrun && !v.getLsbD 3)) ∨
      (s.phase = .busy ∧ (∃ off v, e = .hostWrite off v ∧ off.toNat / 4 ∈ guardedIndices) ∧ t.overrun = true) := by
  cases h with
  | read off => exact .inl rfl
  | reserved off v => exact .inl rfl
  | memWrite addr b => exact .inl rfl
  | engine ans => exact .inl (s.engineStep_sameHostRegs ans).overrun
  | lateRead bytes => exact .inl (s.lateRead_sameHostRegs bytes).overrun
  | reset cut => exact .inr (.inl ⟨⟨cut, rfl⟩, rfl⟩)
  | issue off v _ hr =>
    cases hp : s.phase with
    | idle => exact .inl (State.issue_overrun_idle hp v _)
    | busy =>
      refine .inr (.inr (.inr ⟨rfl, ⟨off, v, rfl, ?_⟩, by rw [State.issue_busy hp]; rfl⟩))
      rw [Reg.index_of_ofOffset hr]
      decide
  | write off v r _ hc hr =>
    have hindex := Reg.index_of_ofOffset hr
    by_cases hst : r = .status
    · subst hst
      exact .inr (.inr (.inl ⟨off, v, rfl, hindex, rfl⟩))
    · rcases s.guardedWrite_overrun hst v with hsame | ⟨hp, hg, hset⟩
      · exact .inl hsame
      · refine .inr (.inr (.inr ⟨hp, ⟨off, v, rfl, ?_⟩, hset⟩))
        rw [hindex]
        exact List.mem_cons_of_mem _ (Reg.index_mem_config hg hc)

/-- Settles O11: the four things a move can do to `OVERRUN`, and the steps that set or clear it. -/
theorem overrunIsSticky : Obligations.OverrunIsSticky := by
  intro s t h
  refine ⟨fun hs ht => ?_, fun hs ht => ?_, ?_, ?_, ?_⟩
  · rcases step_made h with ⟨-, rfl⟩ | ⟨e, rest, ha, hm⟩
    · exact nomatch hs.symm.trans ht
    rcases hm.overrun_cases with heq | ⟨⟨cut, rfl⟩, -⟩ | ⟨off, v, rfl, hi, heq⟩ | ⟨-, -, hset⟩
    · exact nomatch (hs.symm.trans heq.symm).trans ht
    · exact .inr ⟨cut, rest, ha⟩
    · refine .inl ⟨off, v, rest, ha, hi, ?_⟩
      simpa [hs] using heq.symm.trans ht
    · exact nomatch hset.symm.trans ht
  · rcases step_made h with ⟨-, rfl⟩ | ⟨e, rest, ha, hm⟩
    · exact nomatch hs.symm.trans ht
    rcases hm.overrun_cases with heq | ⟨-, hclear⟩ | ⟨off, v, -, -, heq⟩ | ⟨hp, ⟨off, v, rfl, hi⟩, -⟩
    · exact nomatch (hs.symm.trans heq.symm).trans ht
    · exact nomatch hclear.symm.trans ht
    · simp [hs, ht] at heq
    · exact ⟨hp, off, v, rest, ha, hi⟩
  · rintro hp ⟨off, v, rest, ha, hi⟩
    rw [step_guardedBusy ha hp hi] at h
    cases h
    rfl
  · rintro ⟨off, v, rest, ha, hi, hv⟩
    rw [step_writeReg (r := .status) ha (Reg.ofOffset_of_index hi rfl) (by decide),
      State.guardedWrite_unguarded _ rfl] at h
    cases h
    simp [State.writeReg, hv]
  · rintro ⟨cut, rest, ha⟩
    rw [step_reset ha] at h
    cases h
    rfl

/-! ## `ORIENT` (R26) -/

theorem orient_of_display {s t : State} (h : t.display = s.display) : t.orient = s.orient := by
  simp only [State.display, Prod.mk.injEq] at h
  obtain ⟨-, -, -, -, -, ho⟩ := h
  exact ho

theorem State.engineStep_orient {s : State} {ans : BusAnswer} (h : (s.engineStep ans).orient ≠ s.orient) :
    ∃ tl, s.q = .mark (.setOrient (s.engineStep ans).orient) :: tl := by
  rcases s.engineStep_display_cases ans with hd | ⟨-, m, tl, hq, hd⟩ | ⟨k, t, rest, -, -, hs⟩
  · exact absurd (orient_of_display hd) h
  · have ho : (s.engineStep ans).orient = (s.applyMark m).orient := orient_of_display hd
    cases m with
    | winShadow xs ys xe ye => exact absurd ho h
    | winInvalid => exact absurd ho h
    | setOrient d => exact ⟨tl, by rw [ho, hq]; rfl⟩
  · exact absurd (by rw [hs]; rfl) h

/-- Settles O12: only the engine's `SetOrient` mark and reset change `ORIENT`, and only `SETORIENT` has such a mark. -/
theorem orientationChangesOnlyBySetorient : Obligations.OrientationChangesOnlyBySetorient := by
  refine ⟨fun s t h hne => ?_, fun i v d hd => ?_⟩
  · rcases step_made h with ⟨-, rfl⟩ | ⟨e, rest, ha, hm⟩
    · exact absurd rfl hne
    rcases hm.display_cases with hd | ⟨cut, rfl, -⟩ | ⟨ans, rfl, rfl⟩
    · exact absurd (orient_of_display hd) hne
    · exact .inl ⟨cut, rest, ha⟩
    · obtain ⟨tl, hq⟩ := State.engineStep_orient hne
      exact .inr ⟨ans, rest, tl, ha, hq⟩
  · rcases expandOf_mark (mem_marksOf.1 hd) with ⟨x0, y0, x1, y1, hm, -⟩ | ⟨-, hm⟩ | ⟨hi, d', hm, hd'⟩
    · cases hm
    · cases hm
    · cases hm
      exact ⟨hi, hd'⟩

/-! ## `WINV` (R21) -/

theorem winv_of_display {s t : State} (h : t.display = s.display) : t.winv = s.winv := congrArg Prod.fst h

theorem State.engineStep_sets_winv {s : State} {ans : BusAnswer} (hs : s.winv = false)
    (ht : (s.engineStep ans).winv = true) : ∃ a b c d tl, s.q = .mark (.winShadow a b c d) :: tl := by
  rcases s.engineStep_display_cases ans with hd | ⟨-, m, tl, hq, hd⟩ | ⟨k, t, rest, -, -, hf⟩
  · exact nomatch (hs.symm.trans (winv_of_display hd).symm).trans ht
  · have hm : (s.applyMark m).winv = true := (winv_of_display hd).symm.trans ht
    cases m with
    | winShadow a b c d => exact ⟨a, b, c, d, tl, hq⟩
    | winInvalid => exact nomatch hm
    | setOrient d => exact nomatch hs.symm.trans hm
  · rw [hf] at ht
    exact nomatch ht

theorem State.engineStep_clears_winv {s : State} {ans : BusAnswer} (hs : s.winv = true)
    (ht : (s.engineStep ans).winv = false) :
    (∃ tl, s.q = .mark .winInvalid :: tl) ∨ ∃ k x tl, ans = .fault k ∧ s.q = .tx x :: tl := by
  rcases s.engineStep_display_cases ans with hd | ⟨-, m, tl, hq, hd⟩ | ⟨k, x, tl, ha, hq, -⟩
  · exact nomatch (hs.symm.trans (winv_of_display hd).symm).trans ht
  · have hm : (s.applyMark m).winv = false := (winv_of_display hd).symm.trans ht
    cases m with
    | winShadow a b c d => exact nomatch hm
    | winInvalid => exact .inl ⟨tl, hq⟩
    | setOrient d => exact nomatch hs.symm.trans hm
  · exact .inr ⟨k, x, tl, ha, hq⟩

theorem setorient_winInvalid {v : View} (h : (v.latch.args.get 0).toNat ≤ 3) :
    .mark .winInvalid ∈ (expandSetorient v).list := by
  have hdir : ¬v.latch.nat 0 > 3 := by
    rw [Latch.nat]
    omega
  simp [expandSetorient, hdir, Expansion.list]

/-- Settles O13: the engine's marks and faults and reset change `WINV`, and which expansions hold the mark. -/
theorem windowValidityChanges : Obligations.WindowValidityChanges := by
  refine ⟨rfl, fun s t h hs ht => ?_, fun s t h hs ht => ?_, fun s ans rest tl ha hp hst => ⟨?_, ?_, ?_⟩,
    fun s cut rest ha => ⟨_, step_reset ha, rfl⟩, fun v => mem_marksOf.2 (.head _),
    fun v hv => mem_marksOf.2 (setorient_winInvalid hv), fun i v hm => ?_⟩
  · rcases step_made h with ⟨-, rfl⟩ | ⟨e, rest, ha, hm⟩
    · exact nomatch hs.symm.trans ht
    rcases hm.display_cases with hd | ⟨cut, -, rfl⟩ | ⟨ans, rfl, rfl⟩
    · exact nomatch (hs.symm.trans (winv_of_display hd).symm).trans ht
    · exact nomatch ht
    · obtain ⟨a, b, c, d, tl, hq⟩ := State.engineStep_sets_winv (s := s.withAgenda rest) hs ht
      exact ⟨ans, rest, a, b, c, d, tl, ha, hq⟩
  · rcases step_made h with ⟨-, rfl⟩ | ⟨e, rest, ha, hm⟩
    · exact nomatch hs.symm.trans ht
    rcases hm.display_cases with hd | ⟨cut, rfl, -⟩ | ⟨ans, rfl, rfl⟩
    · exact nomatch (hs.symm.trans (winv_of_display hd).symm).trans ht
    · exact .inl ⟨cut, rest, ha⟩
    · rcases State.engineStep_clears_winv (s := s.withAgenda rest) hs ht with ⟨tl, hq⟩ | ⟨k, x, tl, rfl, hq⟩
      · exact .inr (.inl ⟨ans, rest, tl, ha, hq⟩)
      · exact .inr (.inr ⟨k, rest, x, tl, ha, hq⟩)
  · intro a b c d hq
    exact ⟨_, step_engine_mark ha hp hst hq, rfl⟩
  · intro hq
    exact ⟨_, step_engine_mark ha hp hst hq, rfl⟩
  · rintro k x rfl hq
    exact ⟨_, step_engine_fault ha hp hst hq, rfl⟩
  · rcases expandOf_mark (mem_marksOf.1 hm) with ⟨x0, y0, x1, y1, h, -⟩ | ⟨hi, -⟩ | ⟨-, d, h, -⟩
    · cases h
    · exact hi
    · cases h

/-! ## Argument and configuration registers (R16, R30, R31, R33) -/

theorem State.guardedWrite_args {s : State} {r : Reg} {v : Word} {i : Fin 8}
    (h : (s.guardedWrite r v).args.get i ≠ s.args.get i) :
    r = .arg i ∧ (s.guardedWrite r v).args.get i = wordHalf v := by
  rcases s.guardedWrite_cases r v with ⟨-, -, hs⟩ | ⟨-, hs⟩ <;> rw [hs] at h ⊢
  · exact absurd rfl h
  · rcases s.writeReg_args r v with ha | ⟨j, hr, ha⟩ <;> rw [ha] at h ⊢
    · exact absurd rfl h
    · by_cases hij : i = j
      · subst hij
        exact ⟨hr, ArgRegs.get_set_same _ _ _⟩
      · exact absurd (ArgRegs.get_set_other _ _ hij) h

theorem State.guardedWrite_config {s : State} {r : Reg} {v : Word} (h : (s.guardedWrite r v).config ≠ s.config) :
    s.phase = .idle ∧ r.guarded = true := by
  rcases s.guardedWrite_cases r v with ⟨-, -, hs⟩ | ⟨hor, hs⟩ <;> rw [hs] at h
  · exact absurd rfl h
  · cases hg : r.guarded with
    | false => exact absurd (s.writeReg_config hg v) h
    | true => exact ⟨hor.resolve_right (by simp [hg]), rfl⟩

theorem Made.args_changed {e : Event} {s t : State} (h : Made e s t) {i : Fin 8} (hne : t.args.get i ≠ s.args.get i) :
    (∃ cut, e = .reset cut) ∨
      ∃ off v, e = .hostWrite off v ∧ off.toNat / 4 = 24 + i.val ∧ t.args.get i = wordHalf v := by
  cases h with
  | reset cut => exact .inl ⟨cut, rfl⟩
  | write off v r _ hc hr =>
    obtain ⟨rfl, hval⟩ := State.guardedWrite_args hne
    exact .inr ⟨off, v, rfl, (Reg.index_of_ofOffset hr).trans (Reg.index_arg i), hval⟩
  | read off => exact absurd rfl hne
  | reserved off v => exact absurd rfl hne
  | memWrite addr b => exact absurd rfl hne
  | issue off v => exact absurd (by rw [s.issue_args]) hne
  | engine ans => exact absurd (by rw [(s.engineStep_sameHostRegs ans).args]) hne
  | lateRead bytes => exact absurd (by rw [(s.lateRead_sameHostRegs bytes).args]) hne

theorem Made.config_changed {e : Event} {s t : State} (h : Made e s t) (hne : t.config ≠ s.config) :
    (∃ cut, e = .reset cut) ∨
      (s.phase = .idle ∧ ∃ off v, e = .hostWrite off v ∧ off.toNat / 4 ∈ configIndices) := by
  cases h with
  | reset cut => exact .inl ⟨cut, rfl⟩
  | write off v r _ hc hr =>
    obtain ⟨hp, hg⟩ := State.guardedWrite_config hne
    refine .inr ⟨hp, off, v, rfl, ?_⟩
    rw [Reg.index_of_ofOffset hr]
    exact Reg.index_mem_config hg hc
  | read off => exact absurd rfl hne
  | reserved off v => exact absurd rfl hne
  | memWrite addr b => exact absurd rfl hne
  | issue off v => exact absurd (s.issue_config v _) hne
  | engine ans => exact absurd (s.engineStep_sameHostRegs ans).config hne
  | lateRead bytes => exact absurd (s.lateRead_sameHostRegs bytes).config hne

/-- Settles O14: of all moves only a host write at the register and reset write it. -/
theorem onlyTheHostWritesItsRegisters : Obligations.OnlyTheHostWritesItsRegisters := by
  intro s t h
  rcases step_made h with ⟨-, rfl⟩ | ⟨e, rest, ha, hm⟩
  · exact ⟨fun i hne => absurd rfl hne, fun hne => absurd rfl hne⟩
  refine ⟨fun i hne => ?_, fun hne => ?_⟩
  · rcases hm.args_changed hne with ⟨cut, rfl⟩ | ⟨off, v, rfl, hi, hval⟩
    · exact .inl ⟨cut, rest, ha⟩
    · exact .inr ⟨off, v, rest, ha, hi, hval⟩
  · rcases hm.config_changed hne with ⟨cut, rfl⟩ | ⟨hp, off, v, rfl, hi⟩
    · exact .inl ⟨cut, rest, ha⟩
    · exact .inr ⟨hp, off, v, rest, ha, hi⟩

end Sys2Proof.Machine
end

section
/-! Proofs of family `10_state`, part 7: runs of the engine to the end of an expansion (R32, R36, R54 to R56, R94), the
stall (R136) and reset (R149). -/

namespace Sys2Proof.Machine

/-- Settles O42: the head item is a mark or a transaction, and the bus answers it. -/
theorem engineStepPerformsTheHeadItem : Obligations.EngineStepPerformsTheHeadItem := by
  intro s ans rest tl ha hp hs
  refine ⟨fun a b c d hq => step_engine_mark ha hp hs hq, fun hq => step_engine_mark ha hp hs hq,
    fun d hq => step_engine_mark ha hp hs hq, fun t hq hok => ?_, fun t hq hno => ?_⟩
  · subst hok
    exact step_engine_ok ha hp hs hq
  · subst hno
    exact step_engine_noAnswer ha hp hs hq

/-! ## Runs -/

theorem runSteps_zero (s : State) : runSteps 0 s = .next s := rfl

theorem runSteps_succ {s t : State} (h : step s = .next t) (n : Nat) : runSteps (n + 1) s = runSteps n t := by
  have hstep : core.step s = .next t := h
  simp only [runSteps, Host.Core.run, hstep]
  rfl

/-! ## All transactions answered `Ok` (R36, R54) -/

/-- An item performed, a transaction being answered `Ok`, before `Q` is advanced (R36). -/
def State.performItem (s : State) : Item → State
  | .tx t => s.carry t
  | .mark m => s.applyMark m

theorem step_engine_item {s : State} {it : Item} {tl : List Item} {rest : List Event}
    (ha : s.agenda = .engine .ok :: rest) (hp : s.phase = .busy) (hs : s.stalled = false) (hq : s.q = it :: tl) :
    step s = .next (((s.withAgenda rest).performItem it).advance tl) := by
  cases it with
  | tx t => exact step_engine_ok ha hp hs hq
  | mark m => exact step_engine_mark ha hp hs hq

/-- `s` with other moves to come and the engine elsewhere in its expansion: what an item does not touch. -/
def State.engineAt (s : State) (a : List Event) (q : List Item) (p : Phase) (b : Option BulkBuffer) (n : Nat) : State :=
  { s with agenda := a, q := q, phase := p, bulk := b, performed := n }

theorem foldl_performItem_engineAt (its : List Item) (s : State) (a : List Event) (q : List Item) (p : Phase)
    (b : Option BulkBuffer) (n : Nat) :
    its.foldl State.performItem (s.engineAt a q p b n) = (its.foldl State.performItem s).engineAt a q p b n := by
  induction its generalizing s with
  | nil => rfl
  | cons it its ih =>
    rw [List.foldl_cons, List.foldl_cons, ← ih]
    cases it with
    | tx t => rfl
    | mark m => cases m <;> rfl

/-- An item performed and taken off `Q` (R36). -/
theorem performItem_advance (s : State) (it : Item) (a : List Event) (tl : List Item) :
    ((s.withAgenda a).performItem it).advance tl =
      (s.performItem it).engineAt a tl (if tl = [] then .idle else .busy) (if tl = [] then none else s.bulk)
        (s.performed + 1) := by
  cases it with
  | tx t => rfl
  | mark m => cases m <;> rfl

theorem performItem_stalled (s : State) (it : Item) : (s.performItem it).stalled = s.stalled := by
  cases it with
  | tx t => rfl
  | mark m => cases m <;> rfl

/-- The state a busy engine ends in when it has performed `its` and is idle, with the moves `rest` still to come. -/
def State.finished (s : State) (its : List Item) (rest : List Event) : State :=
  (its.foldl State.performItem s).engineAt rest [] .idle none (s.performed + its.length)

theorem finished_engineAt (s : State) (it : Item) (a rest : List Event) (q tl : List Item) (p : Phase)
    (b : Option BulkBuffer) :
    ((s.performItem it).engineAt a q p b (s.performed + 1)).finished tl rest = s.finished (it :: tl) rest := by
  rw [State.finished, foldl_performItem_engineAt, State.finished, List.foldl_cons, List.length_cons,
    Nat.add_comm tl.length 1, ← Nat.add_assoc]
  rfl

/-- A busy engine whose every transaction is answered `Ok` performs all of `Q` and is idle (R36). -/
theorem runSteps_finished {s : State} {it : Item} {tl : List Item} {rest : List Event} (hq : s.q = it :: tl)
    (hp : s.phase = .busy) (hs : s.stalled = false)
    (ha : s.agenda = List.replicate s.q.length (.engine .ok) ++ rest) :
    runSteps s.q.length s = .next (s.finished s.q rest) := by
  rw [hq] at ha ⊢
  induction tl generalizing s it with
  | nil =>
    rw [List.length_singleton, runSteps_succ (step_engine_item ha hp hs hq), performItem_advance, runSteps_zero]
    rfl
  | cons it' tl ih =>
    rw [List.length_cons, runSteps_succ (step_engine_item ha hp hs hq), performItem_advance,
      ← finished_engineAt s it _ rest (it' :: tl) (it' :: tl)]
    exact ih (s := (s.performItem it).engineAt _ _ _ _ _) rfl rfl ((performItem_stalled s it).trans hs) rfl

/-! ## What the items of an expansion add up to -/

theorem foldl_applyMark_carry (ms : List Mark) (s : State) (t : Tx) :
    ms.foldl State.applyMark (s.carry t) = (ms.foldl State.applyMark s).carry t := by
  induction ms generalizing s with
  | nil => rfl
  | cons m ms ih =>
    rw [List.foldl_cons, List.foldl_cons, ← ih]
    cases m <;> rfl

/-- Marks change nothing but the display. -/
theorem foldl_applyMark_frame (ms : List Mark) (s : State) :
    ms.foldl State.applyMark s = { s with
      winXs := (ms.foldl State.applyMark s).winXs, winYs := (ms.foldl State.applyMark s).winYs,
      winXe := (ms.foldl State.applyMark s).winXe, winYe := (ms.foldl State.applyMark s).winYe,
      winv := (ms.foldl State.applyMark s).winv, orient := (ms.foldl State.applyMark s).orient } := by
  induction ms generalizing s with
  | nil => rfl
  | cons m ms ih =>
    rw [List.foldl_cons]
    cases m <;> exact ih _

/-- The items carry their transactions and apply their marks, each in order (R36). -/
theorem foldl_performItem (its : List Item) (s : State) :
    its.foldl State.performItem s =
      { (marksOf its).foldl State.applyMark s with trace := s.trace ++ (txsOf its).map BusEvent.carried } := by
  induction its generalizing s with
  | nil =>
    rw [txsOf, List.map_nil, List.append_nil]
    rfl
  | cons it its ih =>
    rw [List.foldl_cons, ih]
    cases it with
    | mark m => cases m <;> rfl
    | tx t =>
      simp only [State.performItem, marksOf_tx, foldl_applyMark_carry, txsOf, List.map_cons, State.carry_trace,
        List.append_assoc, List.singleton_append]
      rfl

/-- Settles O46: the run performs the items one by one, which adds up to their transactions and marks. -/
theorem engineRunsTheExpansionToItsEnd : Obligations.EngineRunsTheExpansionToItsEnd := by
  intro s rest hinv hp hs ha m
  obtain ⟨it, tl, hq⟩ := List.exists_cons_of_ne_nil (hinv.busy hp).1
  rw [runSteps_finished hq hp hs ha, State.finished, foldl_performItem, foldl_applyMark_frame]
  rfl

/-! ## Drawings end with the full-screen window (R94) -/

theorem marksOf_append (a b : List Item) : marksOf (a ++ b) = marksOf a ++ marksOf b := by
  induction a with
  | nil => rfl
  | cons it a ih => cases it <;> simp [ih]

theorem marksOf_fullWin (c : LatchedCfg) : marksOf (fullWin c) = [windowMark 0 0 (c.w - 1) (c.h - 1)] := rfl

theorem foldl_applyMark_orient {ms : List Mark} (h : ∀ d, .setOrient d ∉ ms) (s : State) :
    (ms.foldl State.applyMark s).orient = s.orient := by
  induction ms generalizing s with
  | nil => rfl
  | cons m ms ih =>
    rw [List.foldl_cons, ih fun d hd => h d (.tail _ hd)]
    cases m with
    | setOrient d => exact absurd (.head _) (h d)
    | winShadow xs ys xe ye => rfl
    | winInvalid => rfl

/-- The last column or row of a legal dimension, as a byte (R94). -/
theorem low8_dim_pred {v : Half} (h : dimOk v) : (low8 ((v.toNat : Int) - 1)).toNat = v.toNat - 1 := by
  obtain ⟨hlo, hhi⟩ := h
  rw [low8_toNat (by omega) (by omega)]
  omega

/-- Issuing a command from an idle state that starts the engine starts it on the command's expansion (R35). -/
theorem exec_busy {i : Instr} {s t : State} (hp : s.phase = .idle) (h : exec i s = .next t) (ht : t.phase = .busy) :
    ∃ its fb b, its ≠ [] ∧ expandOf i (s.viewFor (encode i)) = .items its fb b ∧
      t = { s.beginCommand (encode i) with q := its, phase := .busy, fallback := fb, bulk := b } := by
  rw [exec_eq_issue] at h
  cases h
  rcases s.issue_cases (encode i) (expandOf i) with ⟨hb, -⟩ | ⟨-, c, -, hs⟩ | ⟨-, fb, b, -, hs⟩ |
    ⟨-, its, fb, b, hne, he, hs⟩
  · exact nomatch hp.symm.trans hb
  · rw [hs] at ht
    exact nomatch hp.symm.trans ht
  · rw [hs] at ht
    exact nomatch hp.symm.trans ht
  · exact ⟨its, fb, b, hne, he, hs⟩

theorem State.Inv.exec {s t : State} (h : s.Inv) {i : Instr} (he : exec i s = .next t) : t.Inv := by
  rw [exec_eq_issue, ← expandWord_of_decode (decode_encode i)] at he
  cases he
  exact h.issue _

/-- Settles O47: the run of O46, whose last mark is that of the restore. -/
theorem drawingEndsWithTheFullScreenWindow : Obligations.DrawingEndsWithTheFullScreenWindow := by
  intro i s t hinv hp hd he ht rest ha
  have htinv := hinv.exec he
  obtain ⟨its, fb, b, hne, hexp, rfl⟩ := exec_busy hp he ht
  obtain ⟨body, hits⟩ := drawing_ends_with_fullWin hd hexp hne
  refine ⟨_, engineRunsTheExpansionToItsEnd _ rest htinv ht (hinv.idle hp).2.2 ha, rfl, rfl, ?_⟩
  have hmarks : marksOf its =
      marksOf body ++ [windowMark 0 0 ((s.width.toNat : Int) - 1) ((s.height.toNat : Int) - 1)] := by
    rw [hits, marksOf_append, marksOf_fullWin]
    rfl
  have horient : ∀ d, Mark.setOrient d ∉ marksOf its := by
    intro d hmem
    have hmem : .mark (.setOrient d) ∈ (expandOf i (s.viewFor (encode i))).list := by
      rw [hexp]
      exact mem_marksOf.1 hmem
    rcases expandOf_mark hmem with ⟨x0, y0, x1, y1, hm, -⟩ | ⟨-, hm⟩ | ⟨rfl, -⟩
    · cases hm
    · cases hm
    · cases hd
  refine ⟨?_, ?_, ?_, ?_, ?_, rfl, foldl_applyMark_orient horient _⟩ <;>
    simp only [hmarks, List.foldl_append, List.foldl_cons, List.foldl_nil]
  · rfl
  · rfl
  · rfl
  · exact low8_dim_pred hinv.width
  · exact low8_dim_pred hinv.height

/-! ## The stall (R136) -/

/-- `t` has the engine of `s` in the middle of the same transaction, and the same moves to come. -/
structure State.SameEngine (s t : State) : Prop where
  phase : t.phase = s.phase
  stalled : t.stalled = s.stalled
  q : t.q = s.q
  trace : t.trace = s.trace
  cmd : t.cmd = s.cmd
  latch : t.latch = s.latch
  agenda : t.agenda = s.agenda

theorem State.writeReg_sameEngine (s : State) (r : Reg) (v : Word) : s.SameEngine (s.writeReg r v) := by
  cases r with
  | panelW => simp only [State.writeReg]; split <;> exact ⟨rfl, rfl, rfl, rfl, rfl, rfl, rfl⟩
  | panelH => simp only [State.writeReg]; split <;> exact ⟨rfl, rfl, rfl, rfl, rfl, rfl, rfl⟩
  | _ => exact ⟨rfl, rfl, rfl, rfl, rfl, rfl, rfl⟩

theorem State.engineStep_stalled {s : State} (hs : s.stalled = true) (ans : BusAnswer) : s.engineStep ans = s := by
  rcases s.engineStep_cases ans with ⟨h, -⟩ | ⟨-, hf, -⟩
  · exact h
  · exact nomatch hs.symm.trans hf

theorem State.lateRead_stalled {s : State} (hs : s.stalled = true) (bytes : List RacingByte) :
    s.lateRead bytes = s := by
  rcases s.lateRead_cases bytes with h | ⟨-, hf, -⟩
  · exact h
  · exact nomatch hs.symm.trans hf

/-- No move but reset gets a stuck engine on (R136). -/
theorem Made.sameEngine_of_stalled {e : Event} {s t : State} (h : Made e s t) (hp : s.phase = .busy)
    (hs : s.stalled = true) (hr : ∀ cut, e ≠ .reset cut) : s.SameEngine t := by
  cases h with
  | read off => exact ⟨rfl, rfl, rfl, rfl, rfl, rfl, rfl⟩
  | reserved off v => exact ⟨rfl, rfl, rfl, rfl, rfl, rfl, rfl⟩
  | memWrite addr b => exact ⟨rfl, rfl, rfl, rfl, rfl, rfl, rfl⟩
  | reset cut => exact absurd rfl (hr cut)
  | issue off v =>
    rw [State.issue_busy hp]
    exact ⟨rfl, rfl, rfl, rfl, rfl, rfl, rfl⟩
  | write off v r =>
    rcases s.guardedWrite_cases r v with ⟨-, -, h⟩ | ⟨-, h⟩ <;> rw [h]
    · exact ⟨rfl, rfl, rfl, rfl, rfl, rfl, rfl⟩
    · exact s.writeReg_sameEngine r v
  | engine ans =>
    rw [State.engineStep_stalled hs]
    exact ⟨rfl, rfl, rfl, rfl, rfl, rfl, rfl⟩
  | lateRead bytes =>
    rw [State.lateRead_stalled hs]
    exact ⟨rfl, rfl, rfl, rfl, rfl, rfl, rfl⟩

/-- However many moves follow without a reset, a stuck engine stays where it is (R136). -/
theorem runSteps_stalled (n : Nat) {s : State} (hp : s.phase = .busy) (hs : s.stalled = true)
    (hr : ∀ cut, Event.reset cut ∉ s.agenda) :
    ∃ t, runSteps n s = .next t ∧ t.phase = .busy ∧ t.stalled = true ∧ t.q = s.q ∧ t.trace = s.trace ∧
      t.cmd = s.cmd ∧ t.latch = s.latch := by
  induction n generalizing s with
  | zero => exact ⟨s, rfl, hp, hs, rfl, rfl, rfl, rfl⟩
  | succ n ih =>
    obtain ⟨u, hu⟩ := step_answers_next s
    rw [runSteps_succ hu]
    rcases step_made hu with ⟨-, rfl⟩ | ⟨e, rest, ha, hm⟩
    · exact ih hp hs hr
    have hne : ∀ cut, e ≠ .reset cut := fun cut he => hr cut (ha ▸ he ▸ .head _)
    obtain ⟨hphase, hstall, hq, htrace, hcmd, hlatch, hagenda⟩ := hm.sameEngine_of_stalled hp hs hne
    have hr' : ∀ cut, Event.reset cut ∉ u.agenda := by
      intro cut hmem
      rw [hagenda] at hmem
      exact hr cut (ha ▸ .tail _ hmem)
    obtain ⟨t, ht, hp', hs', hq', htrace', hcmd', hlatch'⟩ := ih (hphase.trans hp) (hstall.trans hs) hr'
    exact ⟨t, ht, hp', hs', hq'.trans hq, htrace'.trans htrace, hcmd'.trans hcmd, hlatch'.trans hlatch⟩

/-- Settles O44: no move but reset gets a stuck engine on, and reset leaves it idle. -/
theorem stallLastsUntilReset : Obligations.StallLastsUntilReset :=
  fun _ hp hs => ⟨fun n hr => runSteps_stalled n hp hs hr, fun _ _ ha => ⟨_, step_reset ha, rfl, rfl⟩⟩

/-! ## Reset (R149) -/

/-- With no transaction on the bus nothing is cut (R149). -/
theorem State.cutTrace_none {s : State} {cut : Option Nat} (h : s.phase = .idle ∨ (s.stalled = false ∧ cut = none)) :
    s.cutTrace cut = s.trace := by
  unfold State.cutTrace
  split
  · next hp hq hc =>
    rcases h with h | ⟨hs, rfl⟩
    · exact nomatch h.symm.trans hp
    · simp [State.cutAt, hs] at hc
  · rfl

/-- The transaction on the bus ends after the bytes the environment says, or after none (R149). -/
theorem State.cutTrace_some {s : State} {cut : Option Nat} {x : Tx} {tl : List Item} (hp : s.phase = .busy)
    (hq : s.q = .tx x :: tl) (h : s.stalled = true ∨ cut ≠ none) :
    s.cutTrace cut = s.trace ++ [.broken x (min (cut.getD 0) x.bytes.length)] := by
  have hcut : s.cutAt cut = some (cut.getD 0) := by
    cases hs : s.stalled with
    | true => simp [State.cutAt, hs]
    | false =>
      obtain ⟨k, rfl⟩ := Option.ne_none_iff_exists'.1 (h.resolve_left (by simp [hs]))
      simp [State.cutAt, hs]
  simp [State.cutTrace, hp, hq, hcut]

theorem State.resetCore_statusWord (s : State) (cut : Option Nat) : (s.resetCore cut).statusWord = 0#32 := by
  have hreset : State.reset.statusWord = 0#32 := by decide
  exact hreset

theorem State.resetCore_dimensions (s : State) (cut : Option Nat) :
    (s.resetCore cut).width = 128#16 ∧ (s.resetCore cut).height = 160#16 := by
  have hreset : State.reset.width = 128#16 ∧ State.reset.height = 160#16 := by decide
  exact hreset

/-- Settles O45: the registers of the reset state, and the cut. -/
theorem resetPutsTheCoreInItsResetState : Obligations.ResetPutsTheCoreInItsResetState := by
  refine ⟨rfl, rfl, fun s cut rest ha => ?_⟩
  obtain ⟨hwidth, hheight⟩ := (s.withAgenda rest).resetCore_dimensions cut
  refine ⟨_, step_reset ha, rfl, rfl, rfl, rfl, rfl, rfl, rfl, rfl, rfl, rfl, hwidth, hheight, rfl, rfl, rfl, rfl, rfl,
    fun i => ?_, rfl, rfl, rfl, rfl, rfl, State.resetCore_statusWord _ cut, fun h => ?_, fun x tl hp hq h => ?_⟩
  · fin_cases i <;> rfl
  · exact State.cutTrace_none (s := s.withAgenda rest) h
  · refine ⟨min (cut.getD 0) x.bytes.length, Nat.min_le_right _ _,
      State.cutTrace_some (s := s.withAgenda rest) hp hq h, ?_⟩
    rintro k' rfl hk
    exact Nat.min_eq_left hk

end Sys2Proof.Machine
end

section
/-! Proofs of family `10_state`, part 8: accepting a command (R18, R33, R35, R125) and the host register port (R14 to
R19, R28). -/

namespace Sys2Proof.Machine

/-! ## The accept step (R35) -/

/-- What issuing a command changes (R35), whatever it expands to. -/
theorem State.issue_acceptFrame {s : State} (hp : s.phase = .idle) (w : Word) (e : View → Expansion) :
    AcceptFrame s (s.issue w e) := by
  rcases s.issue_cases w e with ⟨hb, -⟩ | ⟨-, c, -, h⟩ | ⟨-, fb, b, -, h⟩ | ⟨-, its, fb, b, -, -, h⟩
  · exact nomatch hp.symm.trans hb
  all_goals rw [h]; rfl

/-- What the latch holds (R18, R35), whatever the command expands to. -/
theorem State.issue_acceptRecord {s : State} (hp : s.phase = .idle) (w : Word) (e : View → Expansion) :
    AcceptRecord s (s.issue w e) w := by
  rcases s.issue_cases w e with ⟨hb, -⟩ | ⟨-, c, -, h⟩ | ⟨-, fb, b, -, h⟩ | ⟨-, its, fb, b, -, -, h⟩
  · exact nomatch hp.symm.trans hb
  all_goals rw [h]; exact ⟨rfl, rfl, rfl, rfl, rfl, rfl, rfl, rfl, rfl, rfl, rfl, rfl, rfl, rfl⟩

theorem State.issue_trace (s : State) (w : Word) (e : View → Expansion) : (s.issue w e).trace = s.trace := by
  rcases s.issue_cases w e with ⟨-, h⟩ | ⟨-, c, -, h⟩ | ⟨-, fb, b, -, h⟩ | ⟨-, its, fb, b, -, -, h⟩ <;> rw [h] <;> rfl

/-- A command whose expansion is not empty starts the engine on it (R35). -/
theorem startsWith_of_expandOf {i : Instr} {s : State} {its : List Item} {fb : Bool} {b : Option BulkBuffer}
    (hp : s.phase = .idle) (he : expandOf i (s.viewFor (encode i)) = .items its fb b) (hne : its ≠ []) :
    StartsWith i s its fb b := by
  refine ⟨_, exec_eq_issue i s, State.issue_acceptFrame hp _ _, State.issue_acceptRecord hp _ _, ?_⟩
  rw [State.issue_idle hp, he, State.startExpansion_items hne]
  exact ⟨rfl, rfl, rfl, rfl, rfl⟩

/-- Settles O17: the record of the accept step, and the three things its expansion can be. -/
theorem acceptLatchesAndExpands : Obligations.AcceptLatchesAndExpands := by
  intro i s hp
  have hframe := State.issue_acceptFrame hp (encode i) (expandOf i)
  have hrecord := State.issue_acceptRecord hp (encode i) (expandOf i)
  refine ⟨_, exec_eq_issue i s, hframe, hrecord, State.issue_overrun_idle hp _ _, ?_⟩
  have hgrant : ∀ g gs, s.grants = g :: gs → s.bulkGrant = g := fun g gs hg => by simp [State.bulkGrant, hg]
  rcases s.issue_cases (encode i) (expandOf i) with ⟨hb, -⟩ | ⟨-, c, he, h⟩ | ⟨-, fb, b, he, h⟩ |
    ⟨-, its, fb, b, hne, he, h⟩
  · exact nomatch hp.symm.trans hb
  all_goals
    rw [h]
    refine ⟨rfl, rfl, rfl, rfl, rfl, hgrant, ?_⟩
    have he' : expandOf i ⟨s.latchFor (encode i), s.mem, s.rom, s.bulkGrant⟩ = _ := he
  · simp [State.beginCommand, he', hp]
  · simp [State.beginCommand, he', hp]
  · simp [State.beginCommand, he', hne]

/-- Settles O19: a command is one issue, and no issue stores. -/
theorem issuingACommandFrame : Obligations.IssuingACommandFrame := by
  intro i s t h
  rw [exec_eq_issue] at h
  cases h
  have hstores := s.issue_sameStores (encode i) (expandOf i)
  have hargs := s.issue_args (encode i) (expandOf i)
  have hconfig := s.issue_config (encode i) (expandOf i)
  have hdisplay := s.issue_display (encode i) (expandOf i)
  simp only [State.config, State.display, Prod.mk.injEq] at hconfig hdisplay
  obtain ⟨hbulk, hw, hh, hid, -⟩ := hconfig
  obtain ⟨hwinv, hxs, hys, hxe, hye, horient⟩ := hdisplay
  refine ⟨fun hp => State.issue_acceptFrame hp _ _, fun hp => State.issue_busy hp _ _, fun a => by rw [hstores.mem],
    hstores.rom, s.issue_trace _ _, hargs, hwinv, horient, ?_, ?_⟩
  · rw [hxs, hys, hxe, hye]
  · rw [hw, hh, hid, hbulk]

/-! ## `FILLSCR` (R22, R125, R137) -/

theorem fullWin_latchFor (s : State) (w : Word) : fullWin (s.latchFor w).cfg = restoreItems s := rfl

theorem fillscr_pixels (s : State) (w : Word) :
    ((s.latchFor w).cfg.w * (s.latchFor w).cfg.h).toNat = s.width.toNat * s.height.toNat := by
  rw [LatchedCfg.w, LatchedCfg.h, ← Nat.cast_mul, Int.toNat_natCast]
  rfl

/-- Settles O38: both paths of the fill, by the draw. -/
theorem fillscrFillsTheScreen : Obligations.FillscrFillsTheScreen := by
  intro s hp n hi lo
  refine ⟨fun hen hgrant => startsWith_of_expandOf hp ?_ (List.cons_ne_nil _ _),
    fun hno => startsWith_of_expandOf hp ?_ (List.cons_ne_nil _ _)⟩
  · have hpath : ((s.viewFor (encode .fillscr)).latch.cfg.bulkEn && (s.viewFor (encode .fillscr)).grant) = true :=
      (Bool.and_eq_true _ _).mpr ⟨hen, hgrant⟩
    simp only [expandOf, expandFillscr, hpath, if_true]
    simp only [State.viewFor, fullWin_latchFor, fillscr_pixels]
    rfl
  · have hpath : ¬((s.viewFor (encode .fillscr)).latch.cfg.bulkEn && (s.viewFor (encode .fillscr)).grant) = true := by
      rw [Bool.and_eq_true]
      rintro ⟨hen, hgrant⟩
      rcases hno with h | h
      · exact nomatch h.symm.trans hen
      · exact nomatch h.symm.trans hgrant
    simp only [expandOf, expandFillscr, hpath]
    simp only [State.viewFor, fullWin_latchFor, fillscr_pixels]
    rfl

/-! ## Issuing by a write to `CMD` (R18, R51) -/

/-- Settles O4: a write of a legal word to `CMD` is `exec` of its command. -/
theorem stepRunsTheDecodedCommand : Obligations.StepRunsTheDecodedCommand := by
  have hexec : ∀ (s : State) (off : Offset) (w : Word) (rest : List Event) (i : Instr),
      s.agenda = .hostWrite off w :: rest → off.toNat / 4 = 0 → decode w = .ok i →
      step s = exec i (s.withAgenda rest) := by
    intro s off w rest i ha hi hd
    rw [step_writeCmd ha (Reg.ofOffset_of_index hi rfl), exec_eq_issue, expandWord_of_decode hd,
      eq_encode_of_decode hd]
  refine ⟨hexec, fun s nbits w i hw => ?_⟩
  have hd : decode (BitVec.ofNat 32 (w % 2 ^ nbits)) = .ok i := by
    unfold decodeTableWord decode? at hw
    split at hw
    · cases hw
      assumption
    · cases hw
  exact hexec _ 0x00#7 _ s.agenda i rfl rfl hd

/-- Settles O18: a write to `CMD` is one issue, and a read of it reads the register. -/
theorem cmdWriteIssuesOrIsDropped : Obligations.CmdWriteIssuesOrIsDropped := by
  refine ⟨rfl, fun s off w rest ha hi => ⟨fun hp => ?_, fun hp => step_guardedBusy ha hp (hi ▸ .head _)⟩,
    fun s off rest ha hi => ?_, fun i s hp => ?_⟩
  · obtain ⟨hcmd, hword, hargs, -⟩ :=
      State.issue_acceptRecord (s := s.withAgenda rest) hp w (expandWord w)
    exact ⟨_, step_writeCmd ha (Reg.ofOffset_of_index hi rfl), hcmd, hword, hargs⟩
  · rw [step_hostRead ha, State.hostRead, Reg.ofOffset_of_index hi rfl]
    rfl
  · rw [exec_eq_issue, State.issue_busy hp]
    rfl

/-! ## Reads (R14, R15, R17, R19) -/

theorem State.hostRead_readData {s : State} {off : Offset} {n : Nat} {r : Reg} (h : off.toNat / 4 = n)
    (hr : Reg.ofIndex n = some r) : (s.hostRead off).readData = s.readReg r := by
  simp only [State.hostRead, Reg.ofOffset_of_index h hr]

/-- A host read of a narrower register, reserved bits 0 (R14). -/
theorem toNat_setWidth_word {n : Nat} (h : n ≤ 32) (v : BitVec n) : (v.setWidth 32).toNat = v.toNat :=
  BitVec.toNat_setWidth_of_le h

theorem toNat_ofBool_word (b : Bool) : ((BitVec.ofBool b).setWidth 32).toNat = if b then 1 else 0 := by
  cases b <;> rfl

/-- The bits of the `STATUS` word as a number (R19). -/
theorem State.statusWord_toNat (s : State) :
    s.statusWord.toNat =
      (if s.phase = .busy then 1 else 0) + (if s.winv then 2 else 0) + (if s.fallback then 4 else 0) +
        (if s.overrun then 8 else 0) + 16 * s.err.code.toNat := by
  have hbusy : (if s.phase = .busy then 1 else 0) = if s.busy then 1 else 0 := by simp [State.busy]
  have hbits : ∀ (e : BitVec 4) (o f w b : Bool),
      (0#24 ++ e ++ BitVec.ofBool o ++ BitVec.ofBool f ++ BitVec.ofBool w ++ BitVec.ofBool b).toNat =
        (if b then 1 else 0) + (if w then 2 else 0) + (if f then 4 else 0) + (if o then 8 else 0) + 16 * e.toNat := by
    decide
  rw [hbusy]
  exact hbits _ _ _ _ _

theorem State.width_toNat (s : State) :
    s.width.toNat = if s.orient.getLsbD 0 then s.panelH.toNat else s.panelW.toNat := by
  unfold State.width
  split <;> rfl

theorem State.height_toNat (s : State) :
    s.height.toNat = if s.orient.getLsbD 0 then s.panelW.toNat else s.panelH.toNat := by
  unfold State.height
  split <;> rfl

/-- Settles O5: the register at each offset, read at its width. -/
theorem hostReadReturnsTheRegister : Obligations.HostReadReturnsTheRegister := by
  intro s off rest ha
  have hread : ∀ {n k : Nat} {r : Reg} {v : BitVec n}, n ≤ 32 → off.toNat / 4 = k → Reg.ofIndex k = some r →
      (s.withAgenda rest).readReg r = v.setWidth 32 →
      ((s.withAgenda rest).hostRead off).readData.toNat = v.toNat := by
    intro n k r v hn hk hr hv
    rw [State.hostRead_readData hk hr, hv, toNat_setWidth_word hn]
  refine ⟨_, step_hostRead ha, rfl, fun h => State.hostRead_readData h rfl, fun h => ?_, fun h => ?_,
    fun h => hread (by decide) h rfl rfl, fun h => ?_, fun h => ?_, fun h => hread (by decide) h rfl rfl,
    fun h => hread (by decide) h rfl rfl, fun h => hread (by decide) h rfl rfl, fun h => hread (by decide) h rfl rfl,
    fun h => hread (by decide) h rfl rfl, fun h => hread (by decide) h rfl rfl, fun h => hread (by decide) h rfl rfl,
    fun h => hread (by decide) h rfl rfl, fun h => hread (by decide) h rfl rfl, fun h => hread (by decide) h rfl rfl,
    fun h => hread (by decide) h rfl rfl, fun h => hread (by decide) h rfl rfl, fun h => hread (by decide) h rfl rfl,
    fun h => hread (by decide) h rfl rfl, fun h => hread (by decide) h rfl rfl,
    fun i h => hread (by decide) h (Reg.ofIndex_arg i) rfl⟩
  · rw [State.hostRead_readData h rfl]
    exact (s.withAgenda rest).statusWord_toNat
  · rw [State.hostRead_readData h rfl]
    exact toNat_ofBool_word s.bulkEn
  · exact (hread (by decide) h rfl rfl).trans s.width_toNat
  · exact (hread (by decide) h rfl rfl).trans s.height_toNat

/-- Settles O6: no register stands at these offsets. -/
theorem reservedOffsetsReadZeroIgnoreWrites : Obligations.ReservedOffsetsReadZeroIgnoreWrites := by
  intro s off v rest hlo hhi
  have hnone : Reg.ofOffset off = none := by
    have hindex : off.toNat / 4 = 21 ∨ off.toNat / 4 = 22 ∨ off.toNat / 4 = 23 := by omega
    rcases hindex with h | h | h <;> rw [Reg.ofOffset, h] <;> rfl
  refine ⟨fun ha => ?_, fun ha => step_writeReserved ha hnone⟩
  rw [step_hostRead ha, State.hostRead, hnone]
  rfl

/-! ## Writes (R16, R17, R19, R28) -/

/-- A write that is not dropped, to the register other than `CMD` at word `k` of the register space. -/
theorem step_writeIndex {s : State} {off : Offset} {v : Word} {rest : List Event} {k : Nat} {r : Reg}
    (ha : s.agenda = .hostWrite off v :: rest) (hk : off.toNat / 4 = k) (hr : Reg.ofIndex k = some r)
    (hc : r ≠ .cmd) (hg : s.phase = .idle ∨ r.guarded = false) :
    step s = .next ((s.withAgenda rest).writeReg r v) := by
  rw [step_writeReg ha (Reg.ofOffset_of_index hk hr) hc]
  rcases hg with hp | hg
  · rw [State.guardedWrite_idle (s := s.withAgenda rest) hp]
  · rw [State.guardedWrite_unguarded _ hg]

/-- A write to `STATUS` in any phase (R19). -/
theorem step_writeStatus {s : State} {off : Offset} {v : Word} {rest : List Event}
    (ha : s.agenda = .hostWrite off v :: rest) (h : off.toNat / 4 = 1) :
    step s = .next ((s.withAgenda rest).writeStatus v) := step_writeIndex ha h rfl (by decide) (.inr rfl)

theorem State.writeStatus_of_set (s : State) {v : Word} (hv : v.getLsbD 3 = true) :
    s.writeStatus v = { s with overrun := false } := by
  simp only [State.writeStatus, hv, Bool.not_true, Bool.and_false]

theorem State.writeStatus_of_clear (s : State) {v : Word} (hv : v.getLsbD 3 = false) : s.writeStatus v = s := by
  simp only [State.writeStatus, hv, Bool.not_false, Bool.and_true]

theorem Reg.not_cmd_and_unguarded_of_readOnly {r : Reg} (h : r.readOnly = true) : r ≠ .cmd ∧ r.guarded = false := by
  revert h
  cases r <;> simp [Reg.readOnly, Reg.guarded]

/-- Writes to read-only registers are ignored (R16, R17). -/
theorem State.writeReg_readOnly (s : State) {r : Reg} (h : r.readOnly = true) (v : Word) : s.writeReg r v = s := by
  cases r with
  | orient => rfl
  | width => rfl
  | height => rfl
  | winXs => rfl
  | winYs => rfl
  | winXe => rfl
  | winYe => rfl
  | _ => cases h

/-- Settles O7: dropped, performed in every phase, ignored in every phase. -/
theorem guardedWritesWhileBusyAreDropped : Obligations.GuardedWritesWhileBusyAreDropped := by
  intro s off v rest ha
  refine ⟨fun hp hi => step_guardedBusy ha hp hi,
    fun i hi => step_writeIndex ha hi (Reg.ofIndex_arg i) (by simp) (.inr rfl), fun hi => ?_, fun hi => ?_⟩
  · rw [step_writeStatus ha hi]
    cases hv : v.getLsbD 3 with
    | true => rw [State.writeStatus_of_set _ hv]; rfl
    | false => rw [State.writeStatus_of_clear _ hv]; rfl
  · have hreadOnly : ∀ k ∈ [3, 4, 5, 17, 18, 19, 20], ∃ r, Reg.ofIndex k = some r ∧ r.readOnly = true := by
      simp [Reg.ofIndex, Reg.readOnly]
    obtain ⟨r, hr, hro⟩ := hreadOnly _ hi
    obtain ⟨hc, hg⟩ := Reg.not_cmd_and_unguarded_of_readOnly hro
    rw [step_writeIndex ha rfl hr hc (.inr hg), State.writeReg_readOnly _ hro]
    rfl

/-- Settles O8: each register's bits are stored. -/
theorem configurationWritesWhileIdleAreStored : Obligations.ConfigurationWritesWhileIdleAreStored := by
  intro s off v rest ha hp
  exact ⟨fun h => step_writeIndex ha h rfl (by decide) (.inl hp),
    fun h => step_writeIndex ha h rfl (by decide) (.inl hp),
    fun h => step_writeIndex ha h rfl (by decide) (.inl hp), fun h => step_writeIndex ha h rfl (by decide) (.inl hp),
    fun h => step_writeIndex ha h rfl (by decide) (.inl hp), fun h => step_writeIndex ha h rfl (by decide) (.inl hp),
    fun h => step_writeIndex ha h rfl (by decide) (.inl hp), fun h => step_writeIndex ha h rfl (by decide) (.inl hp),
    fun h => step_writeIndex ha h rfl (by decide) (.inl hp), fun h => step_writeIndex ha h rfl (by decide) (.inl hp)⟩

/-- Settles O9: the two dimensions, in and out of range. -/
theorem panelDimensionWrites : Obligations.PanelDimensionWrites := by
  refine ⟨rfl, rfl, fun s off v rest ha hi => ⟨fun hp => step_guardedBusy ha hp ?_, fun hp hbad => ?_,
    fun hp hlo hhi => ⟨fun h => ?_, fun h => ?_⟩⟩⟩
  · revert hi
    simp [guardedIndices, configIndices]
    omega
  · have hill : ¬dimLegal (wordHalf v) = true := by
      rw [dimLegal_iff]
      rintro ⟨hlo, hhi⟩
      rcases hbad with h | h
      · rw [wordHalf, h] at hlo
        exact absurd hlo (by decide)
      · exact absurd hhi (Nat.not_le.2 h)
    simp only [List.mem_cons, List.not_mem_nil, or_false] at hi
    rcases hi with h | h
    · rw [step_writeIndex (r := .panelW) ha h rfl (by decide) (.inl hp), State.writeReg, if_neg hill]
      rfl
    · rw [step_writeIndex (r := .panelH) ha h rfl (by decide) (.inl hp), State.writeReg, if_neg hill]
      rfl
  · have hlegal : dimLegal (wordHalf v) = true := dimLegal_iff.2 ⟨hlo, hhi⟩
    rw [step_writeIndex (r := .panelW) ha h rfl (by decide) (.inl hp), State.writeReg, if_pos hlegal]
    rfl
  · have hlegal : dimLegal (wordHalf v) = true := dimLegal_iff.2 ⟨hlo, hhi⟩
    rw [step_writeIndex (r := .panelH) ha h rfl (by decide) (.inl hp), State.writeReg, if_pos hlegal]
    rfl

/-- The bits of the `STATUS` word one by one (R19). -/
theorem State.statusWord_fields (s : State) :
    s.statusWord.getLsbD 0 = s.busy ∧ s.statusWord.getLsbD 1 = s.winv ∧ s.statusWord.getLsbD 2 = s.fallback ∧
      s.statusWord.getLsbD 3 = s.overrun ∧ s.statusWord.extractLsb' 4 4 = s.err.code ∧
      s.statusWord.extractLsb' 8 24 = 0#24 := by
  have hbits : ∀ (e : BitVec 4) (o f w b : Bool),
      let v := 0#24 ++ e ++ BitVec.ofBool o ++ BitVec.ofBool f ++ BitVec.ofBool w ++ BitVec.ofBool b
      v.getLsbD 0 = b ∧ v.getLsbD 1 = w ∧ v.getLsbD 2 = f ∧ v.getLsbD 3 = o ∧ v.extractLsb' 4 4 = e ∧
        v.extractLsb' 8 24 = 0#24 := by
    decide
  exact hbits _ _ _ _ _

/-- Settles O10: the bits of `STATUS` and the one bit a write to it looks at. -/
theorem statusFieldsAndWrite : Obligations.StatusFieldsAndWrite := by
  refine ⟨fun s => ?_, by decide, fun s off v rest ha hi => ⟨fun hv => ?_, fun hv => ?_⟩⟩
  · obtain ⟨hbusy, hfields⟩ := s.statusWord_fields
    exact ⟨by rw [hbusy, State.busy, beq_iff_eq], hfields⟩
  · rw [step_writeStatus ha hi, State.writeStatus_of_set _ hv]
    rfl
  · rw [step_writeStatus ha hi, State.writeStatus_of_clear _ hv]
    rfl

end Sys2Proof.Machine
end

section
/-! Proofs of family `20_memory`, part 1: what a command reads of the source memory (R44, R45, R124), what a late read
does with bytes that change under it (R46, R134, R152), and a transport fault (R135). -/

namespace Sys2Proof.Machine

/-! ## `MemRead` (R45) -/

theorem memRead_one (m : List Host.Cell) (addr : Nat) :
    memRead m addr 1 = (Memory.readByte m (addr % 2 ^ 32)).toNat := rfl

/-- Two bytes read are the one at the address and, above it, the one at the next address (R45). -/
theorem memRead_two (m : List Host.Cell) (addr : Nat) :
    memRead m addr 2 =
      (Memory.readByte m (addr % 2 ^ 32)).toNat + 256 * (Memory.readByte m ((addr + 1) % 2 ^ 32)).toNat := rfl

/-- Settles O16: `MemRead` of one and of two bytes, and that of two at the last address. -/
theorem memReadIsLittleEndianAndWraps : Obligations.MemReadIsLittleEndianAndWraps :=
  fun m addr => ⟨memRead_one m addr, memRead_two m addr, memRead_two m 0xFFFFFFFF⟩

/-! ## `BLIT` (R124) -/

/-- The bytes of a 16-bit value put together from two bytes, low byte first as in memory (R41, R45). -/
theorem halfBytes_of_bytes (lo hi : Byte) : halfBytes (BitVec.ofNat 16 (lo.toNat + 256 * hi.toNat)) = [hi, lo] := by
  have hlo := lo.isLt
  have hhi := hi.isLt
  have hhigh : (BitVec.ofNat 16 (lo.toNat + 256 * hi.toNat)).extractLsb' 8 8 = hi := by
    apply BitVec.eq_of_toNat_eq
    simp only [BitVec.extractLsb'_toNat, BitVec.toNat_ofNat, Nat.shiftRight_eq_div_pow]
    omega
  have hlow : (BitVec.ofNat 16 (lo.toNat + 256 * hi.toNat)).extractLsb' 0 8 = lo := by
    apply BitVec.eq_of_toNat_eq
    simp only [BitVec.extractLsb'_toNat, BitVec.toNat_ofNat, Nat.shiftRight_eq_div_pow]
    omega
  rw [halfBytes, hhigh, hlow]

/-- Pixel `k` of a raster goes out higher address first (R86, R124). -/
theorem halfBytes_rasterPixel (m : List Host.Cell) (addr k : Nat) :
    halfBytes (rasterPixel m addr k) =
      [Memory.readByte m ((addr + 2 * k + 1) % 2 ^ 32), Memory.readByte m ((addr + 2 * k) % 2 ^ 32)] := by
  rw [rasterPixel, memRead_two, halfBytes_of_bytes, Nat.mod_mod, Nat.mod_add_mod]

/-- The 32-bit operand as a number (R76). -/
theorem Latch.wide_toNat (l : Latch) : l.wide.toNat = l.args.a7.toNat * 2 ^ 16 + l.args.a6.toNat := by
  rw [Latch.wide, BitVec.toNat_append, ← Nat.shiftLeft_add_eq_or_of_lt l.args.a6.isLt, Nat.shiftLeft_eq]

/-- `BLIT` accepts exactly the sizes and windows of its row in R132. -/
theorem blit_check (s : State) (w : Word) :
    let l := (s.viewFor w).latch
    (decide (1 ≤ l.nat 2) && decide (1 ≤ l.nat 3) &&
      validWin l.cfg (l.int 0) (l.int 1) (l.int 0 + (l.nat 2 : Int) - 1) (l.int 1 + (l.nat 3 : Int) - 1)) =
        windowRow .blit s 0 := by
  rw [Bool.eq_iff_iff]
  simp only [Bool.and_eq_true, decide_eq_true_eq, validWin_iff, windowRow]
  simp only [State.viewFor, State.latchFor, Latch.nat, Latch.int, State.argInt, LatchedCfg.w, LatchedCfg.h]
  omega

/-- A command whose expansion is an error is rejected with its code (R134). -/
theorem rejectedWith_of_expandOf {i : Instr} {s : State} {c : ErrCode} (hp : s.phase = .idle)
    (he : expandOf i (s.viewFor (encode i)) = .error c) : RejectedWith i s c := by
  refine ⟨_, exec_eq_issue i s, State.issue_acceptFrame hp _ _, State.issue_acceptRecord hp _ _, ?_⟩
  rw [State.issue_idle hp, he, State.startExpansion_error]
  exact ⟨rfl, rfl, hp, rfl, rfl⟩

/-- Settles O37: the check of `BLIT` is its row of R132, and its pixels are the bytes of the raster. -/
theorem blitStreamsTheRaster : Obligations.BlitStreamsTheRaster := by
  intro s hp
  refine ⟨fun hrow => startsWith_of_expandOf hp ?_ (List.cons_ne_nil _ _),
    fun hrow => rejectedWith_of_expandOf hp ?_⟩
  · simp only [expandOf, expandBlit, blit_check, hrow, if_true, Tx.data16, halfBytes_rasterPixel, Latch.wide_toNat]
    rfl
  · simp only [expandOf, expandBlit, blit_check, hrow]
    rfl

/-! ## Bytes that change under a running command (R46, R134, R152) -/

/-- A running command reads its bytes from `seenMem`, and `Q` is the rest of what it then expands to (R34, R46). -/
theorem State.Inv.expansionSeeing {s : State} (h : s.Inv) (hp : s.phase = .busy) {i : Instr}
    (hi : decode s.cmd = .ok i) (m : List Host.Cell) : s.expansionSeeing m = expandOf i (s.runningView m) := by
  obtain ⟨-, -, hword, -⟩ := h.busy hp
  rw [State.expansionSeeing, hword, expandWord_of_decode hi]

/-- A late read does nothing in phase `Idle`, for a stuck transaction, and for bytes that were not noted. -/
theorem State.lateRead_ignored {s : State} {bytes : List RacingByte}
    (h : s.phase = .idle ∨ s.stalled = true ∨ ∃ b ∈ bytes, b ∉ s.racing) : s.lateRead bytes = s := by
  rcases s.lateRead_cases bytes with hs | ⟨hp, hstall, hall, -⟩
  · exact hs
  · rcases h with hidle | hstuck | ⟨b, hb, hnot⟩
    · exact nomatch hp.symm.trans hidle
    · exact nomatch hstall.symm.trans hstuck
    · exact absurd (hall b hb) hnot

/-- A late read of noted bytes by a command under way is decided by the expansion of the mixture. -/
theorem State.lateRead_noted {s : State} {bytes : List RacingByte} (hp : s.phase = .busy) (hs : s.stalled = false)
    (hall : ∀ b ∈ bytes, b ∈ s.racing) : s.lateRead bytes = s.adoptMemory (memWith s.seenMem bytes) := by
  refine if_pos ?_
  simpa [State.busy, hp, hs] using hall

/-- A late read writes nothing but the running command's own record and what it has still to do. -/
theorem State.lateRead_frame (s : State) (bytes : List RacingByte) :
    s.lateRead bytes = { s with
      seenMem := (s.lateRead bytes).seenMem, q := (s.lateRead bytes).q, phase := (s.lateRead bytes).phase,
      bulk := (s.lateRead bytes).bulk } := by
  rcases s.lateRead_cases bytes with h | ⟨-, -, -, its, fb, b, -, -, h⟩ <;> rw [h]
  rfl

/-- What a running command reads after a late read is what it read before or what the platform wrote under it. -/
theorem State.Inv.lateRead_readByte {s : State} (h : s.Inv) (bytes : List RacingByte) (a : Nat) :
    Memory.readByte (s.lateRead bytes).seenMem a = Memory.readByte s.seenMem a ∨
      ∃ b ∈ s.racing, b.addr.toNat = a ∧ Memory.readByte (s.lateRead bytes).seenMem a = b.value := by
  rcases s.lateRead_cases bytes with hs | ⟨-, -, hall, its, fb, b, -, -, hs⟩ <;> rw [hs]
  · exact .inl rfl
  · rcases memWith_readByte h.seenMem a with hold | ⟨c, hc, hnew⟩
    · exact .inl hold
    · exact .inr ⟨c, hall c hc, hnew⟩

/-- A command that goes on with `Q` as it is keeps its phase and its bulk buffer. -/
theorem State.goOnSeeing_of_same_items {s : State} {its : List Item} (hp : s.phase = .busy) (hne : s.q ≠ [])
    (hq : s.q = its.drop s.performed) (m : List Host.Cell) : s.goOnSeeing m its = { s with seenMem := m } := by
  rw [State.goOnSeeing, ← hq, if_neg hne, if_neg hne, ← hp]

/-- A command that does not read the source memory keeps its items under a late read (R40, R46). -/
theorem State.Inv.lateRead_of_no_read {s : State} (h : s.Inv) (bytes : List RacingByte) {i : Instr}
    (hi : decode s.cmd = .ok i) (hread : ∀ v m, expandOf i { v with mem := m } = expandOf i v) :
    s.lateRead bytes = { s with seenMem := (s.lateRead bytes).seenMem } := by
  rcases s.lateRead_cases bytes with hs | ⟨hp, -, -, its, fb, b, he, -, hs⟩ <;> rw [hs]
  obtain ⟨hne, -, -, -, -, j, old, hj, hold, hq⟩ := h.busy hp
  cases hi.symm.trans hj
  have hsame : expandOf i (s.runningView (memWith s.seenMem bytes)) = expandOf i (s.runningView s.seenMem) :=
    hread (s.runningView s.seenMem) _
  rw [h.expansionSeeing hp hi, hsame, hold] at he
  cases he
  rw [State.goOnSeeing_of_same_items hp hne hq]

section
variable {s : State} {bytes : List RacingByte} {i : Instr} (h : s.Inv) (hi : decode s.cmd = .ok i)
  (hp : s.phase = .busy) (hs : s.stalled = false) (hall : ∀ b ∈ bytes, b ∈ s.racing)
include h hi hp hs hall

/-- A mixture whose expansion is an error is not read: a running command is not rejected any more (R134). -/
theorem State.Inv.lateRead_of_error {c : ErrCode}
    (he : expandOf i (s.runningView (memWith s.seenMem bytes)) = .error c) : s.lateRead bytes = s := by
  rw [State.lateRead_noted hp hs hall, State.adoptMemory, h.expansionSeeing hp hi, he]

/-- A mixture whose expansion has items is read exactly if these begin with the items performed (log entry 8). -/
theorem State.Inv.lateRead_of_items {old its : List Item} {fb fb' : Bool} {bk bk' : Option BulkBuffer}
    (hold : expandOf i (s.runningView s.seenMem) = .items old fb bk)
    (he : expandOf i (s.runningView (memWith s.seenMem bytes)) = .items its fb' bk') :
    s.lateRead bytes =
      if its.take s.performed = old.take s.performed then s.goOnSeeing (memWith s.seenMem bytes) its else s := by
  rw [State.lateRead_noted hp hs hall, State.adoptMemory, h.expansionSeeing hp hi, he]
  simp only [State.agreesWith, h.expansionSeeing hp hi, hold, Expansion.list, beq_iff_eq]

end

theorem State.goOnSeeing_idle_iff (s : State) (m : List Host.Cell) (its : List Item) :
    (s.goOnSeeing m its).phase = .idle ↔ its.drop s.performed = [] := by
  rw [State.goOnSeeing_phase]
  split <;> simp [*]

theorem step_lateRead {s : State} {bytes : List RacingByte} {rest : List Event}
    (ha : s.agenda = .lateRead bytes :: rest) : step s = .next ((s.withAgenda rest).lateRead bytes) := step_cons ha

/-- Settles O52: a platform write is noted while a command runs, and a late read is what the lemmas above say. -/
theorem racingWriteChangesOnlyTheRest : Obligations.RacingWriteChangesOnlyTheRest := by
  refine ⟨fun s addr b rest ha => ?_, fun s bytes rest hinv ha => ?_⟩
  · rw [step_memWrite ha, State.platformWrite]
    simp only [State.busy, State.withAgenda_phase, beq_iff_eq]
    rfl
  · have hinv' : (s.withAgenda rest).Inv := hinv.withAgenda rest
    refine ⟨_, step_lateRead ha, State.lateRead_frame _ bytes, hinv'.lateRead_readByte bytes,
      State.lateRead_ignored (s := s.withAgenda rest), fun i hi hstr hctr hblit => ?_,
      fun i old fb bk hi hold hp hs hall => ?_⟩
    · exact hinv'.lateRead_of_no_read bytes hi fun v m =>
        (onlyNamedCommandsReadMemoryRomGrant i v m v.rom v.grant).1 hstr hctr hblit
    · split
      · next c he => exact hinv'.lateRead_of_error hi hp hs hall he
      · next its fb' bk' he =>
        have hread := hinv'.lateRead_of_items hi hp hs hall hold he
        split
        · next hagrees =>
          rw [hread.trans (if_pos hagrees)]
          exact ⟨rfl, rfl, State.goOnSeeing_idle_iff _ _ _⟩
        · next hdiffers => exact hread.trans (if_neg hdiffers)

/-! ## A transport fault (R135) -/

/-- Settles O43: the engine's step on `Fault(k)`, `k` being at most the number of bytes. -/
theorem transportFaultAbandonsTheCommand : Obligations.TransportFaultAbandonsTheCommand := by
  intro s k rest t tl ha hp hs hq hk
  rw [step_engine_fault ha hp hs hq, State.transportFault, Nat.min_eq_left hk]
  rfl

end Sys2Proof.Machine
end

section
/-! Proofs of family `20_memory`, part 2: what the panel observer makes of broken transactions (R67)
and of the two paths of a fill (R125). -/

namespace Sys2Proof.Machine

/-! ## Broken transactions (R61, R67) -/

/-- No command byte leaves the observer corrupt (R61, R66, R67). -/
theorem Panel.commandByte_mode_ne_corrupt (p : PanelParams) (o : Panel) (b : Byte) :
    (Panel.commandByte p o b).mode ≠ .corrupt := by
  unfold Panel.commandByte
  split_ifs <;> exact nofun

/-- A corrupt observer ignores data bytes (R67). -/
theorem Panel.bytes_data_of_corrupt (p : PanelParams) {o : Panel} (h : o.mode = .corrupt) (bs : List Byte) :
    Panel.bytes p o .data bs = o := by
  induction bs with
  | nil => rfl
  | cons b bs ih =>
    have hb : Panel.byte p o .data b = o := by simp only [Panel.byte, Panel.dataByte, h]
    rw [Panel.bytes, List.foldl_cons, hb]
    exact ih

/-- Settles O59: a broken transaction corrupts the observer, and only a command byte ends that. -/
theorem brokenTransactionCorruptsThePanel : Obligations.BrokenTransactionCorruptsThePanel :=
  fun p _ _ _ bs => ⟨rfl, rfl, fun _ _ => rfl, Panel.bytes_data_of_corrupt p rfl bs,
    fun b => Panel.commandByte_mode_ne_corrupt p _ b⟩

/-! ## Streams put together -/

theorem txsOf_append (a b : List Item) : txsOf (a ++ b) = txsOf a ++ txsOf b := by
  induction a with
  | nil => rfl
  | cons it a ih => cases it <;> simp [txsOf, ih]

theorem txsOf_solidPixels (n : Nat) (colour : Half) :
    txsOf (solidPixels n colour) = List.replicate n (Tx.data16 colour) := by
  induction n with
  | zero => rfl
  | succ n ih => exact congrArg (Tx.data16 colour :: ·) ih

theorem wireBytes_append (a b : List Tx) : wireBytes (a ++ b) = wireBytes a ++ wireBytes b := List.flatMap_append

theorem Panel.observe_append (p : PanelParams) (o : Panel) (a b : List BusEvent) :
    Panel.observe p o (a ++ b) = Panel.observe p (Panel.observe p o a) b := List.foldl_append

/-- Whole data transactions act on the observer by their bytes alone, however these are cut into transactions (R60). -/
theorem Panel.observe_data (p : PanelParams) (o : Panel) {ts : List Tx} (h : ∀ t ∈ ts, t.dc = .data) :
    Panel.observe p o (ts.map BusEvent.carried) = Panel.bytes p o .data (wireBytes ts) := by
  induction ts generalizing o with
  | nil => rfl
  | cons t ts ih =>
    obtain ⟨ht, hts⟩ := List.forall_mem_cons.1 h
    have hcarry : Panel.busEvent p o (.carried t) = Panel.bytes p o .data t.bytes := by rw [← ht]; rfl
    calc Panel.observe p o ((t :: ts).map BusEvent.carried)
      _ = Panel.observe p (Panel.busEvent p o (.carried t)) (ts.map BusEvent.carried) := rfl
      _ = Panel.bytes p (Panel.bytes p o .data t.bytes) .data (wireBytes ts) := by rw [hcarry, ih _ hts]
      _ = Panel.bytes p o .data (wireBytes (t :: ts)) := List.foldl_append.symm

/-! ## The two paths of a fill (R125) -/

/-- One bulk transaction has the bytes of one transaction a pixel (R87, R125). -/
theorem wireBytes_fill (n : Nat) (colour : Half) :
    wireBytes [Tx.bulk (BulkBuffer.bytes ⟨n, colour⟩)] = wireBytes (List.replicate n (Tx.data16 colour)) := by
  simp [wireBytes, Tx.bulk, Tx.data16, BulkBuffer.bytes, List.flatMap]

/-- Data transactions with the same bytes leave every observer the same. -/
theorem Panel.observe_data_congr (p : PanelParams) (o : Panel) {ts us : List Tx} (ht : ∀ t ∈ ts, t.dc = .data)
    (hu : ∀ t ∈ us, t.dc = .data) (h : wireBytes ts = wireBytes us) :
    Panel.observe p o (ts.map BusEvent.carried) = Panel.observe p o (us.map BusEvent.carried) := by
  rw [Panel.observe_data p o ht, Panel.observe_data p o hu, h]

/-- The transactions of the bulk path: the pixels are one (R125). -/
theorem txsOf_fillscr_bulk {v : View} (hen : v.latch.cfg.bulkEn = true) :
    txsOf (expandFillscr { v with grant := true }).list =
      txsOf (fullWin v.latch.cfg) ++
        [Tx.bulk (BulkBuffer.bytes ⟨(v.latch.cfg.w * v.latch.cfg.h).toNat, v.latch.half 0⟩)] ++
        txsOf (fullWin v.latch.cfg) := by
  simp [expandFillscr, hen, Expansion.list, txsOf_append, txsOf]

/-- The transactions of the streamed path: each pixel is one (R125). -/
theorem txsOf_fillscr_streamed (v : View) :
    txsOf (expandFillscr { v with grant := false }).list =
      txsOf (fullWin v.latch.cfg) ++
        List.replicate (v.latch.cfg.w * v.latch.cfg.h).toNat (Tx.data16 (v.latch.half 0)) ++
        txsOf (fullWin v.latch.cfg) := by
  simp [expandFillscr, Expansion.list, txsOf_append, txsOf_solidPixels]

/-- Settles O39: the paths differ only in how the data bytes of the pixels are cut into transactions. -/
theorem fillPathsAgreeOnThePanel : Obligations.FillPathsAgreeOnThePanel := by
  intro v p o
  cases hen : v.latch.cfg.bulkEn with
  | false => simp [expandFillscr, hen]
  | true =>
    have hbytes := wireBytes_fill (v.latch.cfg.w * v.latch.cfg.h).toNat (v.latch.half 0)
    rw [txsOf_fillscr_bulk hen, txsOf_fillscr_streamed]
    simp only [wireBytes_append, List.map_append, Panel.observe_append, hbytes]
    refine ⟨trivial, congrArg (Panel.observe p · _) (Panel.observe_data_congr p _ ?_ ?_ hbytes)⟩
    · exact List.forall_mem_singleton.2 rfl
    · exact fun t ht => List.eq_of_mem_replicate ht ▸ rfl

end Sys2Proof.Machine
end

section
/-! Proofs of family `20_memory`, part 3: a window sequence and a pixel stream fill the window (R61 to R64, R93). -/

namespace Sys2Proof.Machine

/-! ## Pixel streams (R63, R64) -/

/-- The place of pixel number `k` of a stream into a window: row-major and wrapping (R64). -/
def windowPixel (x0 x1 y0 y1 k : Nat) : Nat × Nat :=
  (x0 + k % (x1 - x0 + 1), y0 + k / (x1 - x0 + 1) % (y1 - y0 + 1))

theorem windowPixel_zero (x0 x1 y0 y1 : Nat) : windowPixel x0 x1 y0 y1 0 = (x0, y0) := by simp [windowPixel]

/-- Within a row the next number is in the same row, one column on. -/
theorem div_mod_succ_of_lt {k w : Nat} (h : k % w + 1 < w) : (k + 1) / w = k / w ∧ (k + 1) % w = k % w + 1 := by
  refine (Nat.div_mod_unique (by omega)).2 ⟨?_, h⟩
  have hk := Nat.mod_add_div k w
  omega

/-- At the end of a row the next number begins the next row. -/
theorem div_mod_succ_of_eq {k w : Nat} (h : k % w + 1 = w) : (k + 1) / w = k / w + 1 ∧ (k + 1) % w = 0 := by
  refine (Nat.div_mod_unique (by omega)).2 ⟨?_, by omega⟩
  have hk := Nat.mod_add_div k w
  rw [Nat.mul_succ]
  omega

theorem nextPixel_in_row {x1 x : Nat} (h : x < x1) (x0 y0 y1 y : Nat) :
    nextPixel x0 x1 y0 y1 (x, y) = (x + 1, y) := if_neg (Nat.not_lt.2 h)

theorem nextPixel_row_end {x1 x y1 y : Nat} (hx : x1 ≤ x) (hy : y < y1) (x0 y0 : Nat) :
    nextPixel x0 x1 y0 y1 (x, y) = (x0, y + 1) := (if_pos (Nat.lt_succ_of_le hx)).trans (if_neg (Nat.not_lt.2 hy))

theorem nextPixel_last {x1 x y1 y : Nat} (hx : x1 ≤ x) (hy : y1 ≤ y) (x0 y0 : Nat) :
    nextPixel x0 x1 y0 y1 (x, y) = (x0, y0) := (if_pos (Nat.lt_succ_of_le hx)).trans (if_pos (Nat.lt_succ_of_le hy))

/-- The pointer advances along the row; from its end to the next row, and from the last row to the origin (R64). -/
theorem nextPixel_windowPixel {x0 x1 y0 y1 : Nat} (hx : x0 ≤ x1) (hy : y0 ≤ y1) (k : Nat) :
    nextPixel x0 x1 y0 y1 (windowPixel x0 x1 y0 y1 k) = windowPixel x0 x1 y0 y1 (k + 1) := by
  have hcol : k % (x1 - x0 + 1) < x1 - x0 + 1 := Nat.mod_lt _ (Nat.succ_pos _)
  have hrow : k / (x1 - x0 + 1) % (y1 - y0 + 1) < y1 - y0 + 1 := Nat.mod_lt _ (Nat.succ_pos _)
  unfold windowPixel
  by_cases hx_end : k % (x1 - x0 + 1) + 1 = x1 - x0 + 1
  · rw [(div_mod_succ_of_eq hx_end).1, (div_mod_succ_of_eq hx_end).2]
    by_cases hy_end : k / (x1 - x0 + 1) % (y1 - y0 + 1) + 1 = y1 - y0 + 1
    · rw [nextPixel_last (by omega) (by omega), (div_mod_succ_of_eq hy_end).2]
      rfl
    · rw [nextPixel_row_end (by omega) (by omega), (div_mod_succ_of_lt (by omega)).2]
      rfl
  · have hinside : k % (x1 - x0 + 1) + 1 < x1 - x0 + 1 := by omega
    rw [nextPixel_in_row (by omega), (div_mod_succ_of_lt hinside).1, (div_mod_succ_of_lt hinside).2]
    rfl

/-- `o` is about to receive pixel number `k` of a stream into the window from `(x0, y0)` to `(x1, y1)`. -/
structure Panel.AtPixel (o : Panel) (x0 x1 y0 y1 : Half) (k : Nat) : Prop where
  mode : o.mode = .ram none
  xs : o.xs = some x0
  xe : o.xe = some x1
  ys : o.ys = some y0
  ye : o.ye = some y1
  pointer : o.pointer = some (windowPixel x0.toNat x1.toNat y0.toNat y1.toNat k)

/-- `o'` is `o` with the pixel writes `ws` performed, its taint and its dimensions being those of `o`. -/
structure Panel.Wrote (o o' : Panel) (ws : List (Nat × Nat × Half)) : Prop where
  writes : o'.writes = o.writes ++ ws
  tainted : o'.tainted = o.tainted
  width : o'.width = o.width
  height : o'.height = o.height

theorem halfBytes_append (v : Half) : v.extractLsb' 8 8 ++ v.extractLsb' 0 8 = v :=
  (BitVec.extractLsb'_append_extractLsb'_eq_extractLsb' rfl).trans BitVec.extractLsb'_eq_self

theorem properWindow_iff {x0 x1 y0 y1 : Half} {w h : Nat} :
    properWindow x0 x1 y0 y1 w h = true ↔
      x0.toNat ≤ x1.toNat ∧ x1.toNat < w ∧ y0.toNat ≤ y1.toNat ∧ y1.toNat < h := by
  simp only [properWindow, Bool.and_eq_true, decide_eq_true_eq, and_assoc]

/-- The pixel writes of a stream whose first pixel is number `k` (R64, R68). -/
def streamWrites (x0 x1 y0 y1 k : Nat) (colours : List Half) : List (Nat × Nat × Half) :=
  (colours.zipIdx k).map fun q => ((windowPixel x0 x1 y0 y1 q.2).1, (windowPixel x0 x1 y0 y1 q.2).2, q.1)

theorem streamWrites_cons (x0 x1 y0 y1 k : Nat) (v : Half) (colours : List Half) :
    streamWrites x0 x1 y0 y1 k (v :: colours) =
      streamWrites x0 x1 y0 y1 k [v] ++ streamWrites x0 x1 y0 y1 (k + 1) colours := rfl

section
variable {o : Panel} {x0 x1 y0 y1 : Half} {k : Nat}

/-- A pixel in a proper window is written at its place, and the observer is at the next one (R63, R64). -/
theorem Panel.AtPixel.data16 (h : o.AtPixel x0 x1 y0 y1 k) (hwin : properWindow x0 x1 y0 y1 o.width o.height = true)
    (p : PanelParams) (v : Half) :
    (Panel.busEvent p o (.carried (Tx.data16 v))).AtPixel x0 x1 y0 y1 (k + 1) ∧
      o.Wrote (Panel.busEvent p o (.carried (Tx.data16 v)))
        (streamWrites x0.toNat x1.toNat y0.toNat y1.toNat k [v]) := by
  obtain ⟨hmode, hxs, hxe, hys, hye, hpointer⟩ := h
  obtain ⟨hx, -, hy, -⟩ := properWindow_iff.1 hwin
  have hpixel : Panel.busEvent p o (.carried (Tx.data16 v)) =
      Panel.writePixel { o with mode := .ram (some (v.extractLsb' 8 8)) } v := by
    simp only [Panel.busEvent, Panel.bytes, Tx.data16, halfBytes, List.foldl_cons, List.foldl_nil, Panel.byte,
      Panel.dataByte, hmode, halfBytes_append]
  simp only [hpixel, Panel.writePixel, hxs, hxe, hys, hye, hpointer, hwin, if_true, nextPixel_windowPixel hx hy]
  exact ⟨⟨rfl, rfl, rfl, rfl, rfl, rfl⟩, rfl, rfl, rfl, rfl⟩

/-- A pixel stream into a proper window writes its pixels from number `k` on (R63, R64). -/
theorem Panel.AtPixel.stream (h : o.AtPixel x0 x1 y0 y1 k) (hwin : properWindow x0 x1 y0 y1 o.width o.height = true)
    (p : PanelParams) (colours : List Half) :
    (Panel.observe p o ((colours.map Tx.data16).map BusEvent.carried)).AtPixel x0 x1 y0 y1 (k + colours.length) ∧
      o.Wrote (Panel.observe p o ((colours.map Tx.data16).map BusEvent.carried))
        (streamWrites x0.toNat x1.toNat y0.toNat y1.toNat k colours) := by
  induction colours generalizing o k with
  | nil => exact ⟨h, (List.append_nil _).symm, rfl, rfl, rfl⟩
  | cons v colours ih =>
    obtain ⟨hnext, hwrites, htainted, hwidth, hheight⟩ := h.data16 hwin p v
    obtain ⟨hend, hwrites', htainted', hwidth', hheight'⟩ := ih hnext (by rw [hwidth, hheight, hwin])
    refine ⟨?_, ?_, htainted'.trans htainted, hwidth'.trans hwidth, hheight'.trans hheight⟩
    · rw [List.length_cons, Nat.add_comm colours.length 1, ← Nat.add_assoc]
      exact hend
    · rw [streamWrites_cons, ← List.append_assoc, ← hwrites]
      exact hwrites'

end

/-! ## The window sequence (R61, R62, R93) -/

/-- A set-column command and its four parameters set the columns, whatever came before (R61, R62). -/
theorem Panel.observe_columns (p : PanelParams) (o : Panel) (h0 l0 h1 l1 : Byte) :
    Panel.observe p o
        ([Tx.cmd p.caset, Tx.data8 h0, Tx.data8 l0, Tx.data8 h1, Tx.data8 l1].map BusEvent.carried) =
      { o with
        mode := .idle, tainted := o.tainted || o.mode.interrupted, xs := some (h0 ++ l0), xe := some (h1 ++ l1) } := by
  have hcmd : Panel.busEvent p o (.carried (Tx.cmd p.caset)) =
      { o with mode := .col [], tainted := o.tainted || o.mode.interrupted } := if_pos rfl
  rw [List.map_cons, Panel.observe, List.foldl_cons, hcmd]
  rfl

/-- A set-row command and its four parameters set the rows (R61, R62). -/
theorem Panel.observe_rows {p : PanelParams} (hne : p.raset ≠ p.caset) (o : Panel) (h0 l0 h1 l1 : Byte) :
    Panel.observe p o
        ([Tx.cmd p.raset, Tx.data8 h0, Tx.data8 l0, Tx.data8 h1, Tx.data8 l1].map BusEvent.carried) =
      { o with
        mode := .idle, tainted := o.tainted || o.mode.interrupted, ys := some (h0 ++ l0), ye := some (h1 ++ l1) } := by
  have hcmd : Panel.busEvent p o (.carried (Tx.cmd p.raset)) =
      { o with mode := .row [], tainted := o.tainted || o.mode.interrupted } := (if_neg hne).trans (if_pos rfl)
  rw [List.map_cons, Panel.observe, List.foldl_cons, hcmd]
  rfl

/-- A memory-write command puts the pointer at the window's origin (R61). -/
theorem Panel.observe_memoryWrite {p : PanelParams} (hcol : p.ramwr ≠ p.caset) (hrow : p.ramwr ≠ p.raset)
    (hmad : p.ramwr ≠ p.madctl) (o : Panel) :
    Panel.observe p o ([Tx.cmd p.ramwr].map BusEvent.carried) =
      { o with mode := .ram none, tainted := o.tainted || o.mode.interrupted, pointer := o.origin } :=
  (if_neg hcol).trans ((if_neg hrow).trans ((if_neg hmad).trans (if_pos rfl)))

/-- The value of a window register that the two parameter bytes of a coordinate set (R62, R93). -/
def sentCoord (v : Int) : Half := 0x00#8 ++ low8 v

theorem sentCoord_toNat {x : Nat} (h : x < 256) : (sentCoord x).toNat = x := by
  rw [sentCoord, BitVec.toNat_append, BitVec.toNat_zero, Nat.zero_shiftLeft, Nat.zero_or,
    low8_toNat (by omega) (by omega)]
  rfl

theorem properWindow_sentCoord {x0 x1 y0 y1 w h : Nat} (hw : w ≤ 256) (hh : h ≤ 256) (hx : x0 ≤ x1) (hx1 : x1 < w)
    (hy : y0 ≤ y1) (hy1 : y1 < h) :
    properWindow (sentCoord x0) (sentCoord x1) (sentCoord y0) (sentCoord y1) w h = true := by
  rw [properWindow_iff, sentCoord_toNat (x := x0) (by omega), sentCoord_toNat (x := x1) (by omega),
    sentCoord_toNat (x := y0) (by omega), sentCoord_toNat (x := y1) (by omega)]
  exact ⟨hx, hx1, hy, hy1⟩

/-- `o` after a window sequence: the window set, the pointer at its origin, and the taint of what was interrupted. -/
def Panel.windowed (o : Panel) (x0 y0 x1 y1 : Int) : Panel :=
  { o with
    mode := .ram none
    tainted := o.tainted || o.mode.interrupted
    xs := some (sentCoord x0)
    xe := some (sentCoord x1)
    ys := some (sentCoord y0)
    ye := some (sentCoord y1)
    pointer := some ((sentCoord x0).toNat, (sentCoord y0).toNat) }

theorem Panel.windowed_atPixel (o : Panel) (x0 y0 x1 y1 : Int) :
    (o.windowed x0 y0 x1 y1).AtPixel (sentCoord x0) (sentCoord x1) (sentCoord y0) (sentCoord y1) 0 :=
  ⟨rfl, rfl, rfl, rfl, rfl, by rw [windowPixel_zero, Panel.windowed]⟩

theorem txsOf_winSeq (c : LatchedCfg) (x0 y0 x1 y1 : Int) :
    txsOf (winSeq c x0 y0 x1 y1) =
      [Tx.cmd c.caset, Tx.data8 0x00#8, Tx.data8 (low8 x0), Tx.data8 0x00#8, Tx.data8 (low8 x1)] ++
      [Tx.cmd c.raset, Tx.data8 0x00#8, Tx.data8 (low8 y0), Tx.data8 0x00#8, Tx.data8 (low8 y1)] ++
      [Tx.cmd c.ramwr] := rfl

/-- A window sequence sets its window, on a panel with the core's opcodes (R61, R62, R93). -/
theorem Panel.observe_winSeq {c : LatchedCfg} {p : PanelParams} (hcaset : p.caset = c.caset)
    (hraset : p.raset = c.raset) (hramwr : p.ramwr = c.ramwr) (hrc : c.raset ≠ c.caset) (hwc : c.ramwr ≠ c.caset)
    (hwr : c.ramwr ≠ c.raset) (hmad : c.ramwr ≠ p.madctl) (o : Panel) (x0 y0 x1 y1 : Int) :
    Panel.observe p o ((txsOf (winSeq c x0 y0 x1 y1)).map BusEvent.carried) = o.windowed x0 y0 x1 y1 := by
  rw [← hramwr] at hwc hwr hmad
  rw [← hcaset] at hrc hwc
  rw [← hraset] at hrc hwr
  rw [txsOf_winSeq, ← hcaset, ← hraset, ← hramwr, List.map_append, List.map_append, Panel.observe_append,
    Panel.observe_append, Panel.observe_columns, Panel.observe_rows hrc, Panel.observe_memoryWrite hwc hwr hmad]
  simp only [PanelMode.interrupted, Bool.or_false]
  rfl

/-- Settles O58: the window sequence puts the observer at pixel 0 of the window, and the stream goes on from there. -/
theorem windowStreamFillsRowMajor : Obligations.WindowStreamFillsRowMajor := by
  intro c p o x0 y0 x1 y1 colours hcaset hraset hramwr hrc hwc hwr hmad how hoh hx hx1 hy hy1 stream o' w h
  have hwin := properWindow_sentCoord how hoh hx hx1 hy hy1
  obtain ⟨hend, hwrites, htainted, hwidth, hheight⟩ := (o.windowed_atPixel x0 y0 x1 y1).stream hwin p colours
  have ho' : o' = Panel.observe p (o.windowed x0 y0 x1 y1) ((colours.map Tx.data16).map BusEvent.carried) := by
    rw [← Panel.observe_winSeq hcaset hraset hramwr hrc hwc hwr hmad, ← Panel.observe_append, ← List.map_append]
  rw [sentCoord_toNat (x := x0) (by omega), sentCoord_toNat (x := x1) (by omega),
    sentCoord_toNat (x := y0) (by omega), sentCoord_toNat (x := y1) (by omega)] at hwrites
  rw [ho']
  exact ⟨hwrites, htainted, hend.mode, hwidth, hheight⟩

end Sys2Proof.Machine
end

section
/-! Proofs of family `30_encoding`, part 1: the command words (R69 to R75, R78) and what an expansion reads of the
argument registers (R76, R77). -/

namespace Sys2Proof.Machine

/-! ## Legal words (R69 to R75) -/

/-- Settles O1: a command's word decodes to it, and the word's fields are determined by the command. -/
theorem encodeAndDecodeAreInverse : Obligations.EncodeAndDecodeAreInverse :=
  ⟨decode_encode, fun _ _ h => eq_encode_of_decode h⟩

/-- Settles O3: the legal words are those of their commands, and the illegal ones fail the checks in turn. -/
theorem sampleWordsDecode : Obligations.SampleWordsDecode :=
  ⟨decode_encode .nop, decode_encode .wrcmd, decode_encode .setwin, decode_encode .point, decode_encode .rectf,
    decode_encode .circlef, decode_encode .trif, decode_encode (.textchar true), decode_encode (.numeric false),
    decode_encode .blit, decode_encode .fillscr, by decide, by decide, by decide, by decide⟩

/-! ## Illegal words (R78) -/

theorem byte_eq_iff_toNat {n : Nat} (hn : n < 256) (opc : Byte) : opc = BitVec.ofNat 8 n ↔ opc.toNat = n := by
  rw [BitVec.toNat_eq, BitVec.toNat_ofNat, Nat.mod_eq_of_lt hn]

theorem takesFill_iff (opc : Byte) : takesFill opc = true ↔ opc.toNat ∈ [0x12, 0x13, 0x14] := by
  simp [takesFill, byte_eq_iff_toNat, or_assoc]

theorem takesOverlay_iff (opc : Byte) : takesOverlay opc = true ↔ opc.toNat ∈ [0x20, 0x21, 0x22, 0x23] := by
  simp [takesOverlay, byte_eq_iff_toNat, or_assoc]

/-- The table has no row exactly for the unassigned `OPC` values (R74). -/
theorem tableRow_eq_none_iff (opc : Byte) (f ov : Bool) :
    tableRow opc f ov = none ↔ opc.toNat ∉ [0x00, 0x01, 0x02, 0x03, 0x04, 0x05, 0x10, 0x11, 0x12, 0x13, 0x14, 0x20,
      0x21, 0x22, 0x23, 0x30, 0x31] := by
  unfold tableRow
  split
  case h_18 => simp_all
  all_goals
    next hopc => simp [hopc]

/-- A word is illegal for one of the four causes of R78. -/
theorem decode?_eq_none_iff (w : Word) :
    decode? w = none ↔ resField w ≠ 0#22 ∨ tableRow (opcField w) (fillField w) (overlayField w) = none ∨
      (fillField w = true ∧ ¬takesFill (opcField w) = true) ∨
      (overlayField w = true ∧ ¬takesOverlay (opcField w) = true) := by
  unfold decode? decode
  by_cases hres : resField w = 0#22
  · by_cases hfill : fillField w = true ∧ takesFill (opcField w) = false
    · simp [hres, hfill]
    by_cases hov : overlayField w = true ∧ takesOverlay (opcField w) = false
    · simp [hres, hfill, hov]
    cases hrow : tableRow (opcField w) (fillField w) (overlayField w) <;> simp [hres, hfill, hov]
  · simp [hres]

theorem expandWord_of_illegal {w : Word} (h : decode? w = none) : expandWord w = fun _ => .error .illegalCommand := by
  cases hd : decode w with
  | ok i =>
    rw [decode?, hd] at h
    cases h
  | error e =>
    funext v
    rw [expandWord, hd]

/-- Settles O2: the causes are those `decode` checks, and an illegal word is one issue of the error. -/
theorem illegalWordsOnlyReport : Obligations.IllegalWordsOnlyReport := by
  refine ⟨fun w => ?_, fun s off w rest ha hi hp hw => ?_⟩
  · rw [decode?_eq_none_iff, tableRow_eq_none_iff, takesFill_iff, takesOverlay_iff]
    rfl
  · have hidle : (s.withAgenda rest).phase = .idle := hp
    refine ⟨_, step_writeCmd ha (Reg.ofOffset_of_index hi rfl), State.issue_acceptFrame hidle _ _,
      State.issue_acceptRecord hidle _ _, ?_⟩
    rw [State.issue_idle hidle, expandWord_of_illegal hw, State.startExpansion_error]
    exact ⟨rfl, rfl, hp, rfl, rfl, rfl⟩

/-! ## Operands (R76, R77) -/

/-- Settles O40: with the registers of the command's row equal, one by one, the two expansions are the same term. -/
theorem expansionReadsOnlyItsOperands : Obligations.ExpansionReadsOnlyItsOperands := by
  rintro i ⟨⟨w, ⟨b0, b1, b2, b3, b4, b5, b6, b7⟩, cfg⟩, mem, rom, grant⟩ word ⟨a0, a1, a2, a3, a4, a5, a6, a7⟩ h
  cases i <;>
    simp only [Instr.argRegs, Instr.slots, OperandSlot.regs, List.flatMap_cons, List.flatMap_nil, List.cons_append,
      List.nil_append, List.forall_mem_cons, List.not_mem_nil, false_implies, implies_true, and_true, ArgRegs.get] at h
  case nop => rfl
  case wrcmd | wrdata8 | wrdata16 | setorient | fillscr =>
    subst h
    rfl
  case point =>
    obtain ⟨rfl, rfl, rfl⟩ := h
    rfl
  case setwin | circle | circlef =>
    obtain ⟨rfl, rfl, rfl, rfl⟩ := h
    rfl
  case line | rect | rectf =>
    obtain ⟨rfl, rfl, rfl, rfl, rfl⟩ := h
    rfl
  case textchar | textctr | blit =>
    obtain ⟨rfl, rfl, rfl, rfl, rfl, rfl⟩ := h
    rfl
  case tri | trif =>
    obtain ⟨rfl, rfl, rfl, rfl, rfl, rfl, rfl⟩ := h
    rfl
  case textstr | numeric =>
    obtain ⟨rfl, rfl, rfl, rfl, rfl, rfl, rfl, rfl⟩ := h
    rfl

end Sys2Proof.Machine
end

section
/-! Proofs of family `30_encoding`, part 2: host programs (R76, R77, R81, R82). The accesses of a command line, and the
loop of `WAIT`. -/

namespace Sys2Proof.Machine

/-! ## Loading operands (R76) -/

/-- The argument registers once an operand is written (R76). -/
def loadOperand (a : ArgRegs) (p : OperandSlot × Nat) : ArgRegs :=
  match p.1 with
  | .byte i => a.set i (BitVec.ofNat 16 p.2)
  | .half i => a.set i (BitVec.ofNat 16 p.2)
  | .wide => (a.set 6 (BitVec.ofNat 16 (p.2 % 2 ^ 16))).set 7 (BitVec.ofNat 16 (p.2 / 2 ^ 16))

/-- The argument registers once some operands are written, in order. -/
def loadOperands (a : ArgRegs) (ps : List (OperandSlot × Nat)) : ArgRegs := ps.foldl loadOperand a

/-- The registers of a slot hold the operand `v` (R76). -/
def SlotHolds (sl : OperandSlot) (a : ArgRegs) (v : Nat) : Prop :=
  match sl with
  | .byte r => (a.get r).toNat = v
  | .half r => (a.get r).toNat = v
  | .wide => a.a7.toNat * 2 ^ 16 + a.a6.toNat = v

theorem loadOperand_get_other {p : OperandSlot × Nat} {r : Fin 8} (h : r ∉ p.1.regs) (a : ArgRegs) :
    (loadOperand a p).get r = a.get r := by
  obtain ⟨sl, v⟩ := p
  cases sl with
  | byte i => exact ArgRegs.get_set_other a _ (by simpa [OperandSlot.regs] using h)
  | half i => exact ArgRegs.get_set_other a _ (by simpa [OperandSlot.regs] using h)
  | wide =>
    simp only [OperandSlot.regs, List.mem_cons, List.not_mem_nil, or_false, not_or] at h
    exact (ArgRegs.get_set_other _ _ h.2).trans (ArgRegs.get_set_other a _ h.1)

/-- Operands of other slots leave a register as it is. -/
theorem loadOperands_get_other {ps : List (OperandSlot × Nat)} {r : Fin 8} (h : ∀ p ∈ ps, r ∉ p.1.regs)
    (a : ArgRegs) : (loadOperands a ps).get r = a.get r := by
  induction ps generalizing a with
  | nil => rfl
  | cons p ps ih =>
    exact (ih (fun q hq => h q (.tail _ hq)) (loadOperand a p)).trans (loadOperand_get_other (h p (.head _)) a)

/-- An operand that fits its slot is what the slot then holds. -/
theorem loadOperand_holds {p : OperandSlot × Nat} (h : p.2 < 2 ^ p.1.width) (a : ArgRegs) :
    SlotHolds p.1 (loadOperand a p) p.2 := by
  obtain ⟨sl, v⟩ := p
  cases sl with
  | byte i =>
    have hv : v < 2 ^ 8 := h
    simp only [SlotHolds, loadOperand, ArgRegs.get_set_same, BitVec.toNat_ofNat]
    omega
  | half i =>
    have hv : v < 2 ^ 16 := h
    simp only [SlotHolds, loadOperand, ArgRegs.get_set_same, BitVec.toNat_ofNat]
    omega
  | wide =>
    have hv : v < 2 ^ 32 := h
    simp only [SlotHolds, loadOperand, ArgRegs.set, BitVec.toNat_ofNat]
    omega

/-- What a slot holds depends on its own registers only. -/
theorem SlotHolds.congr {sl : OperandSlot} {a b : ArgRegs} {v : Nat} (h : SlotHolds sl a v)
    (hab : ∀ r ∈ sl.regs, b.get r = a.get r) : SlotHolds sl b v := by
  cases sl with
  | byte i => exact (congrArg BitVec.toNat (hab i (.head _))).trans h
  | half i => exact (congrArg BitVec.toNat (hab i (.head _))).trans h
  | wide =>
    have h6 : b.a6 = a.a6 := hab 6 (.head _)
    have h7 : b.a7 = a.a7 := hab 7 (.tail _ (.head _))
    simpa only [SlotHolds, h6, h7] using h

/-- Operands of slots with no register in common, each fitting its slot, are all held once they are loaded. -/
theorem loadOperands_holds {ps : List (OperandSlot × Nat)} (hfit : ∀ p ∈ ps, p.2 < 2 ^ p.1.width)
    (hdis : ps.Pairwise fun p q => List.Disjoint p.1.regs q.1.regs) (a : ArgRegs) :
    ∀ p ∈ ps, SlotHolds p.1 (loadOperands a ps) p.2 := by
  induction ps generalizing a with
  | nil => exact fun _ hp => nomatch hp
  | cons p ps ih =>
    obtain ⟨hhead, htail⟩ := List.pairwise_cons.mp hdis
    intro q hq
    cases hq with
    | head =>
      have hkeep : ∀ r ∈ p.1.regs, (loadOperands (loadOperand a p) ps).get r = (loadOperand a p).get r :=
        fun r hr => loadOperands_get_other (fun q hq => hhead q hq hr) _
      exact (loadOperand_holds (hfit p (.head _)) a).congr hkeep
    | tail _ hq => exact ih (fun q hq => hfit q (.tail _ hq)) htail _ q hq

/-! ## Command lines (R77, R81) -/

/-- No row of R77 names a register twice. -/
theorem argRegs_nodup (i : Instr) : i.argRegs.Nodup := by
  cases i <;> decide +revert

theorem slots_disjoint (i : Instr) : i.slots.Pairwise fun a b => List.Disjoint a.regs b.regs :=
  (List.nodup_flatMap.mp (argRegs_nodup i)).2

/-- What a well-formed command line loads into the argument registers (R81). -/
def loadLine (c : CommandLine) (a : ArgRegs) : ArgRegs := loadOperands a (c.instr.slots.zip c.operands)

theorem loadLine_get_other (c : CommandLine) (a : ArgRegs) {r : Fin 8} (h : r ∉ c.instr.argRegs) :
    (loadLine c a).get r = a.get r :=
  loadOperands_get_other (fun _ hp hr => h (List.mem_flatMap.mpr ⟨_, (List.of_mem_zip hp).1, hr⟩)) a

theorem loadLine_holds {c : CommandLine} (hc : c.wellFormed = true) (a : ArgRegs) {k : Nat} {sl : OperandSlot}
    {v : Nat} (hs : c.instr.slots[k]? = some sl) (hv : c.operands[k]? = some v) : SlotHolds sl (loadLine c a) v := by
  simp only [CommandLine.wellFormed, CommandLine.arityOk, CommandLine.rangesOk, Bool.and_eq_true, beq_iff_eq,
    List.all_eq_true, decide_eq_true_eq] at hc
  obtain ⟨harity, hfit⟩ := hc
  have hdis : (c.instr.slots.zip c.operands).Pairwise fun p q => List.Disjoint p.1.regs q.1.regs := by
    have h := slots_disjoint c.instr
    rwa [← List.map_fst_zip harity.ge, List.pairwise_map] at h
  have hmem : (sl, v) ∈ c.instr.slots.zip c.operands :=
    List.mem_of_getElem? (List.getElem?_zip_eq_some.mpr ⟨hs, hv⟩)
  exact loadOperands_holds hfit hdis a _ hmem

/-! ## Running a command line (R82) -/

theorem wordHalf_ofNat (v : Nat) : wordHalf (BitVec.ofNat 32 v) = BitVec.ofNat 16 v := by
  apply BitVec.eq_of_toNat_eq
  simp [wordHalf]

/-- `s` with other argument registers and other moves to come. -/
def State.withArgs (s : State) (a : ArgRegs) (rest : List Event) : State := { s with args := a, agenda := rest }

/-- A write to an argument register is performed in every phase (R16, R33). -/
theorem step_writeArg {s : State} {i : Fin 8} {v : Nat} {rest : List Event}
    (ha : s.agenda = .hostWrite (Reg.arg i).offset (BitVec.ofNat 32 v) :: rest) :
    step s = .next (s.withArgs (s.args.set i (BitVec.ofNat 16 v)) rest) := by
  rw [step_writeReg ha (Reg.ofOffset_offset _) (by simp), State.guardedWrite_unguarded _ rfl, ← wordHalf_ofNat]
  rfl

/-- The moves of an operand load it. -/
theorem runSteps_operand {s : State} {p : OperandSlot × Nat} {rest : List Event}
    (ha : s.agenda = (operandWrites p.1 p.2).map HostOp.access ++ rest) (n : Nat) :
    runSteps ((operandWrites p.1 p.2).length + n) s =
      runSteps n (s.withArgs (loadOperand s.args p) rest) := by
  obtain ⟨sl, v⟩ := p
  rw [Nat.add_comm]
  cases sl with
  | byte i => exact runSteps_succ (step_writeArg ha) n
  | half i => exact runSteps_succ (step_writeArg ha) n
  | wide =>
    calc runSteps (n + 1 + 1) s
      _ = runSteps (n + 1) (s.withArgs (s.args.set 6 (.ofNat 16 (v % 2 ^ 16)))
            (.hostWrite (Reg.arg 7).offset (.ofNat 32 (v / 2 ^ 16)) :: rest)) := runSteps_succ (step_writeArg ha) _
      _ = runSteps n (s.withArgs (loadOperand s.args (.wide, v)) rest) :=
          runSteps_succ (step_writeArg (i := 7) (v := v / 2 ^ 16) (rest := rest) rfl) n

/-- The moves of some operands load them in order. -/
theorem runSteps_operands (ps : List (OperandSlot × Nat)) {s : State} {rest : List Event}
    (ha : s.agenda = (ps.flatMap fun p => operandWrites p.1 p.2).map HostOp.access ++ rest) (n : Nat) :
    runSteps ((ps.flatMap fun p => operandWrites p.1 p.2).length + n) s =
      runSteps n (s.withArgs (loadOperands s.args ps) rest) := by
  induction ps generalizing s with
  | nil =>
    have hrest : s.agenda = rest := ha
    have hs : s = s.withArgs s.args rest := by rw [← hrest]; rfl
    rw [List.flatMap_nil, List.length_nil, Nat.zero_add]
    exact congrArg (runSteps n) hs
  | cons p ps ih =>
    rw [List.flatMap_cons, List.map_append, List.append_assoc] at ha
    rw [List.flatMap_cons, List.length_append, Nat.add_assoc, runSteps_operand ha]
    exact ih rfl

/-- The last move of a command line issues its command (R18, R82). -/
theorem step_writeCommand {s : State} {i : Instr} {rest : List Event}
    (ha : s.agenda = .hostWrite Reg.cmd.offset (encode i) :: rest) : step s = exec i (s.withAgenda rest) := by
  rw [step_writeCmd ha (Reg.ofOffset_offset _), exec_eq_issue, expandWord_of_decode (decode_encode i)]

theorem runSteps_one (s : State) : runSteps 1 s = step s := by
  obtain ⟨t, ht⟩ := step_answers_next s
  rw [runSteps_succ ht, runSteps_zero, ht]

/-- The moves of a command line load its operands and then issue its command (R82). -/
theorem runSteps_commandAccesses {c : CommandLine} {s : State} {rest : List Event}
    (ha : s.agenda = commandAccesses c ++ rest) :
    runSteps (commandAccesses c).length s = exec c.instr (s.withArgs (loadLine c s.args) rest) := by
  rw [commandAccesses, commandOps, List.map_append, List.append_assoc] at ha
  rw [commandAccesses, commandOps, List.length_map, List.length_append, runSteps_operands _ ha]
  exact (runSteps_one _).trans (step_writeCommand rfl)

/-! ## The loop of `WAIT` (R81, R82, R128) -/

/-- A turn of the loop reads `STATUS`; the host stays in it while the core is busy. -/
theorem HostRun.turn_poll (s : State) (rest : List HostOp) :
    HostRun.turn ⟨s, .poll :: rest⟩ .host =
      .next ⟨{ s with readData := s.statusWord }, if s.phase = .busy then .poll :: rest else rest⟩ := by
  have hread : perform HostOp.poll.access s = .next { s with readData := s.statusWord } := rfl
  rw [HostRun.turn_host, hread, HostRun.reach_next, HostOp.following_poll, State.statusWord_busy, State.busy]
  simp only [beq_iff_eq]

/-- The turns `ts` lead from the loop in `s` to `r` by way of a read of `STATUS` made in the loop with the core idle. -/
def LeavesPoll (s : State) (rest : List HostOp) (ts : List Turn) (r : HostRun) : Prop :=
  ∃ (before after : List Turn) (u : State), ts = before ++ .host :: after ∧
    HostRun.turns ⟨s, .poll :: rest⟩ before = .next ⟨u, .poll :: rest⟩ ∧ u.phase = .idle ∧
    HostRun.turns ⟨{ u with readData := u.statusWord }, rest⟩ after = .next r

/-- A turn that stays in the loop may come first. -/
theorem LeavesPoll.cons {s s' : State} {rest : List HostOp} {t : Turn} {ts : List Turn} {r : HostRun}
    (ht : HostRun.turn ⟨s, .poll :: rest⟩ t = .next ⟨s', .poll :: rest⟩) (h : LeavesPoll s' rest ts r) :
    LeavesPoll s rest (t :: ts) r := by
  obtain ⟨before, after, u, hts, hbefore, hidle, hafter⟩ := h
  exact ⟨t :: before, after, u, congrArg (t :: ·) hts, (HostRun.turns_cons before ht).trans hbefore, hidle, hafter⟩

/-- Whatever the agents do, the host gets past the loop only by a read of `STATUS` made with the core idle. -/
theorem leavesPoll_of_turns {s : State} {rest : List HostOp} {ts : List Turn} {r : HostRun}
    (h : HostRun.turns ⟨s, .poll :: rest⟩ ts = .next r) (hpast : r.ops.length ≤ rest.length) :
    LeavesPoll s rest ts r := by
  induction ts generalizing s with
  | nil =>
    cases h
    exact absurd hpast (by simp)
  | cons t ts ih =>
    have hstays : ∀ s', HostRun.turn ⟨s, .poll :: rest⟩ t = .next ⟨s', .poll :: rest⟩ → LeavesPoll s rest (t :: ts) r :=
      fun _ ht => .cons ht (ih ((HostRun.turns_cons ts ht).symm.trans h))
    cases t with
    | other e =>
      obtain ⟨s', hs', -⟩ := perform_made e s
      exact hstays s' (by rw [HostRun.turn_other, hs', HostRun.reach_next])
    | host =>
      have hturn := HostRun.turn_poll s rest
      cases hp : s.phase with
      | busy =>
        rw [if_pos hp] at hturn
        exact hstays _ hturn
      | idle =>
        rw [if_neg (by simp [hp])] at hturn
        exact ⟨[], ts, s, rfl, rfl, hp, (HostRun.turns_cons ts hturn).symm.trans h⟩

/-- Settles O60: what a command line's moves do to the core, and how a host gets past `WAIT`. -/
theorem commandLineLoadsOperandsThenIssues : Obligations.CommandLineLoadsOperandsThenIssues :=
  ⟨HostRun.turn_poll, fun _ _ _ _ h hpast => leavesPoll_of_turns h hpast, fun c s _ hc _ ha =>
    ⟨loadLine c s.args, fun _ hr => loadLine_get_other c s.args hr, fun _ _ _ hs hv => loadLine_holds hc s.args hs hv,
      runSteps_commandAccesses ha⟩⟩

end Sys2Proof.Machine
end

section
/-! Proofs of family `40_transport`: the raw transport commands (R89 to R91). -/

namespace Sys2Proof.Machine

/-- `WRCMD` marks the window unknown and sends the low byte of `A0` as a command, whatever the high byte (R76, R89). -/
theorem expandOf_wrcmd (s : State) (w : Word) :
    expandOf .wrcmd (s.viewFor w) =
      .items [.mark .winInvalid, .tx ⟨.command, [s.args.a0.extractLsb' 0 8]⟩] false none := rfl

/-- `WRDATA8` sends the low byte of `A0` as data, whatever the high byte (R76, R90). -/
theorem expandOf_wrdata8 (s : State) (w : Word) :
    expandOf .wrdata8 (s.viewFor w) = .items [.tx ⟨.data, [s.args.a0.extractLsb' 0 8]⟩] false none := rfl

/-- `WRDATA16` sends both bytes of `A0` as one data transaction, the high byte first (R86, R91). -/
theorem expandOf_wrdata16 (s : State) (w : Word) :
    expandOf .wrdata16 (s.viewFor w) =
      .items [.tx ⟨.data, [s.args.a0.extractLsb' 8 8, s.args.a0.extractLsb' 0 8]⟩] false none := rfl

/-- Settles O21: none of the three expansions is empty, so the accept step starts the engine on each. -/
theorem transportCommandsStart : Obligations.TransportCommandsStart := fun s hp =>
  ⟨startsWith_of_expandOf hp (expandOf_wrcmd s _) (List.cons_ne_nil _ _),
    startsWith_of_expandOf hp (expandOf_wrdata8 s _) (List.cons_ne_nil _ _),
    startsWith_of_expandOf hp (expandOf_wrdata16 s _) (List.cons_ne_nil _ _)⟩

end Sys2Proof.Machine
end

section
/-! Proofs of family `41_window`: the checks of `SETWIN` and `POINT` against their rows of R132 (R92, R96, R99), and
what the two commands start the engine on (R93, R94, R97). -/

namespace Sys2Proof.Machine

/-! ## The checks (R92, R99, R132) -/

/-- A window of four latched operands is checked against the dimensions of this moment (R92). -/
theorem validWin_viewFor (s : State) (w : Word) (i0 j0 i1 j1 : Fin 8) :
    let l := (s.viewFor w).latch
    validWin l.cfg (l.int i0) (l.int j0) (l.int i1) (l.int j1) =
      decide (s.argInt i0 ≤ s.argInt i1 ∧ s.argInt i1 < (s.width.toNat : Int) ∧
        s.argInt j0 ≤ s.argInt j1 ∧ s.argInt j1 < (s.height.toNat : Int)) := by
  rw [Bool.eq_iff_iff, validWin_iff, decide_eq_true_eq]
  simp only [State.viewFor, State.latchFor, Latch.int, State.argInt, LatchedCfg.w, LatchedCfg.h]
  omega

/-- A point of two latched operands is checked against the dimensions of this moment (R99). -/
theorem onScreen_viewFor (s : State) (w : Word) (i j : Fin 8) :
    let l := (s.viewFor w).latch
    onScreen l.cfg (l.int i) (l.int j) =
      decide (s.argInt i < (s.width.toNat : Int) ∧ s.argInt j < (s.height.toNat : Int)) := by
  rw [Bool.eq_iff_iff, onScreen_iff, decide_eq_true_eq]
  simp only [State.viewFor, State.latchFor, Latch.int, State.argInt, LatchedCfg.w, LatchedCfg.h]
  omega

/-! ## A checked command (R132) -/

/-- A command that emits something exactly if its check holds starts the engine on it, or is rejected. -/
theorem startsOrRejects_of_expandOf {i : Instr} {s : State} {its : List Item} {ok : Bool} {c : ErrCode}
    (hp : s.phase = .idle) (hne : its ≠ [])
    (he : expandOf i (s.viewFor (encode i)) = if ok then .items its false none else .error c) :
    (ok = true → StartsWith i s its false none) ∧ (ok = false → RejectedWith i s c) :=
  ⟨fun hok => startsWith_of_expandOf hp (he.trans (if_pos hok)) hne,
    fun hok => rejectedWith_of_expandOf hp (he.trans (if_neg (Bool.eq_false_iff.1 hok)))⟩

/-! ## `SETWIN` (R96) -/

/-- `SETWIN` is one window sequence with no restore, or an error, as its row of R132 says. -/
theorem expandOf_setwin (s : State) (w : Word) :
    expandOf .setwin (s.viewFor w) =
      if windowRow .setwin s 0 then
        .items (windowItems s (s.argInt 0) (s.argInt 1) (s.argInt 2) (s.argInt 3)) false none
      else .error .invalidWindow := by
  simp only [expandOf, expandSetwin, validWin_viewFor]
  rfl

/-- Settles O22: the window sequence is not empty, so the accept step starts the engine on it. -/
theorem setwinStartsOrRejects : Obligations.SetwinStartsOrRejects := fun s hp =>
  startsOrRejects_of_expandOf hp (List.cons_ne_nil _ _) (expandOf_setwin s _)

/-! ## `POINT` (R99) -/

/-- `POINT` is one plot and the restore, or an error, as its row of R132 says. -/
theorem expandOf_point (s : State) (w : Word) :
    expandOf .point (s.viewFor w) =
      if windowRow .point s 0 then
        .items (plotItems s s.args.a2 (s.argInt 0, s.argInt 1) ++ restoreItems s) false none
      else .error .invalidWindow := by
  simp only [expandOf, expandPoint, onScreen_viewFor]
  rfl

/-- Settles O24: the plot is not empty, so the accept step starts the engine on it and the restore. -/
theorem pointStartsOrRejects : Obligations.PointStartsOrRejects := fun s hp =>
  startsOrRejects_of_expandOf hp (List.cons_ne_nil _ _) (expandOf_point s _)

end Sys2Proof.Machine
end

section
/-! Proofs of family `42_point_line_rect`: the plots of a line one by one (R98), and what `LINE`, `RECT`, `RECTF` and
`TRI` start the engine on (R100, R101, R102, R112). -/

namespace Sys2Proof.Machine

/-! ## The plots of a line (R98) -/

/-- Plot `j` of a line in closed form (R98). -/
def closedPoint (x0 y0 x1 y1 : Int) (j : Nat) : Int × Int :=
  let d := max (x1 - x0).natAbs (y1 - y0).natAbs
  (x0 + Int.sign (x1 - x0) * lineOffset d (x1 - x0).natAbs j, y0 + Int.sign (y1 - y0) * lineOffset d (y1 - y0).natAbs j)

theorem linePoints_eq_map_closedPoint (x0 y0 x1 y1 : Int) :
    linePoints x0 y0 x1 y1 =
      (List.range (max (x1 - x0).natAbs (y1 - y0).natAbs + 1)).map (closedPoint x0 y0 x1 y1) :=
  linePoints_eq_closedLine x0 y0 x1 y1

theorem linePoints_length (x0 y0 x1 y1 : Int) :
    (linePoints x0 y0 x1 y1).length = max (x1 - x0).natAbs (y1 - y0).natAbs + 1 := by
  rw [linePoints_eq_map_closedPoint, List.length_map, List.length_range]

theorem linePoints_getElem?_eq_some {x0 y0 x1 y1 : Int} {j : Nat} {p : Int × Int} :
    (linePoints x0 y0 x1 y1)[j]? = some p ↔
      j ≤ max (x1 - x0).natAbs (y1 - y0).natAbs ∧ closedPoint x0 y0 x1 y1 j = p := by
  rw [linePoints_eq_map_closedPoint]
  simp [List.getElem?_eq_some_iff]

theorem closedPoint_start (x0 y0 x1 y1 : Int) : closedPoint x0 y0 x1 y1 0 = (x0, y0) := by
  simp [closedPoint, lineOffset_start]

/-- After `max(|dx|, |dy|)` steps both coordinates have gone all their way. -/
theorem closedPoint_end (x0 y0 x1 y1 : Int) :
    closedPoint x0 y0 x1 y1 (max (x1 - x0).natAbs (y1 - y0).natAbs) = (x1, y1) := by
  simp only [closedPoint, lineOffset_end (Nat.le_max_left _ _), lineOffset_end (Nat.le_max_right _ _),
    Int.sign_mul_natAbs, add_sub_cancel]

theorem linePoints_head? (x0 y0 x1 y1 : Int) : (linePoints x0 y0 x1 y1).head? = some (x0, y0) := by
  rw [List.head?_eq_getElem?, linePoints_getElem?_eq_some]
  exact ⟨Nat.zero_le _, closedPoint_start x0 y0 x1 y1⟩

theorem linePoints_getLast? (x0 y0 x1 y1 : Int) : (linePoints x0 y0 x1 y1).getLast? = some (x1, y1) := by
  rw [List.getLast?_eq_getElem?, linePoints_length, linePoints_getElem?_eq_some]
  exact ⟨le_rfl, closedPoint_end x0 y0 x1 y1⟩

/-- A coordinate moves by at most 1 at a step, for it has no further to go than there are steps (R98). -/
theorem lineOffset_succ_le {d delta : Nat} (h : delta ≤ d) (j : Nat) :
    lineOffset d delta (j + 1) ≤ lineOffset d delta j + 1 := by
  obtain ⟨-, hstep⟩ := bresenham_lineAcc h j 0 1
  split at hstep <;> omega

/-- A coordinate that moves by 0 or 1 towards its end moves by at most 1. -/
theorem natAbs_sign_mul_step_le {v s t t' : Int} (h : t ≤ t') (h' : t' ≤ t + 1) :
    ((v + s.sign * t') - (v + s.sign * t)).natAbs ≤ 1 := by
  obtain rfl | rfl : t' = t ∨ t' = t + 1 := by omega
  · simp
  · have hsign : (v + s.sign * (t + 1)) - (v + s.sign * t) = s.sign := by ring
    rw [hsign, Int.natAbs_sign]
    split <;> omega

/-- Neighbouring plots of a line differ by at most 1 in each coordinate (R98). -/
theorem closedPoint_step (x0 y0 x1 y1 : Int) (j : Nat) :
    ((closedPoint x0 y0 x1 y1 (j + 1)).1 - (closedPoint x0 y0 x1 y1 j).1).natAbs ≤ 1 ∧
      ((closedPoint x0 y0 x1 y1 (j + 1)).2 - (closedPoint x0 y0 x1 y1 j).2).natAbs ≤ 1 :=
  ⟨natAbs_sign_mul_step_le (lineOffset_mono _ _ j.le_succ) (lineOffset_succ_le (Nat.le_max_left _ _) j),
    natAbs_sign_mul_step_le (lineOffset_mono _ _ j.le_succ) (lineOffset_succ_le (Nat.le_max_right _ _) j)⟩

/-- Settles O53: the five facts of the closed form, the box among the facts of every expansion. -/
theorem lineStaysInItsBox : Obligations.LineStaysInItsBox := by
  refine fun x0 y0 x1 y1 => ⟨linePoints_length x0 y0 x1 y1, linePoints_head? x0 y0 x1 y1,
    linePoints_getLast? x0 y0 x1 y1, fun p hp => ?_, fun k p q hp hq => ?_⟩
  · obtain ⟨⟨hxlo, hxhi⟩, hy⟩ := mem_linePoints hp
    exact ⟨hxlo, hxhi, hy⟩
  · obtain ⟨-, rfl⟩ := linePoints_getElem?_eq_some.1 hp
    obtain ⟨-, rfl⟩ := linePoints_getElem?_eq_some.1 hq
    exact closedPoint_step x0 y0 x1 y1 k

/-! ## Drawings (R94) -/

/-- A drawing is never empty: it ends with the restore (R94). -/
theorem append_restoreItems_ne_nil (s : State) (body : List Item) : body ++ restoreItems s ≠ [] :=
  List.append_ne_nil_of_right_ne_nil body (List.cons_ne_nil _ _)

/-! ## `LINE` (R100) -/

/-- `LINE` is the plots of the closed form and the restore, or an error, as its row of R132 says. -/
theorem expandOf_line (s : State) (w : Word) :
    expandOf .line (s.viewFor w) =
      if windowRow .line s 0 then
        .items ((closedLine (s.argInt 0) (s.argInt 1) (s.argInt 2) (s.argInt 3)).flatMap (plotItems s s.args.a4) ++
          restoreItems s) false none
      else .error .invalidWindow := by
  simp only [expandOf, expandLine, onScreen_viewFor, ← Bool.decide_and, and_assoc, lineBody, linePoints_eq_closedLine]
  rfl

/-- Settles O25: the check is the row of R132, and the accumulator loop plots the closed form. -/
theorem lineFollowsTheClosedForm : Obligations.LineFollowsTheClosedForm := fun s hp =>
  startsOrRejects_of_expandOf hp (append_restoreItems_ne_nil s _) (expandOf_line s _)

/-! ## `RECT` (R101) -/

/-- `RECT` is the plots of its four edges and the restore, or an error, as its row of R132 says. -/
theorem expandOf_rect (s : State) (w : Word) :
    expandOf .rect (s.viewFor w) =
      if windowRow .rect s 0 then
        .items ((rectPoints (s.argInt 0) (s.argInt 1) (s.argInt 2) (s.argInt 3)).flatMap (plotItems s s.args.a4) ++
          restoreItems s) false none
      else .error .invalidWindow := by
  simp only [expandOf, expandRect, validWin_viewFor]
  rfl

/-- The corner pixels of an outline are plotted once for each edge they end (R101). -/
theorem rectPoints_length {x0 y0 x1 y1 : Int} (hx : x0 ≤ x1) (hy : y0 ≤ y1) :
    ((rectPoints x0 y0 x1 y1).length : Int) = 2 * (x1 - x0 + 1) + 2 * (y1 - y0 + 1) := by
  simp only [rectPoints, List.length_append, linePoints_length]
  omega

/-- Settles O26: each edge is a line of the closed form, and the corners are in order where the row of R132 holds. -/
theorem rectOutlineIsFourLines : Obligations.RectOutlineIsFourLines := by
  intro s hp x0 y0 x1 y1 points
  have hpoints : points = rectPoints x0 y0 x1 y1 := by simp only [rectPoints, linePoints_eq_closedLine, points]
  obtain ⟨hstarts, hrejects⟩ :=
    startsOrRejects_of_expandOf hp (append_restoreItems_ne_nil s _) (expandOf_rect s (encode .rect))
  rw [hpoints]
  refine ⟨fun hrow => ⟨hstarts hrow, ?_⟩, hrejects⟩
  obtain ⟨hx, -, hy, -⟩ := of_decide_eq_true hrow
  exact rectPoints_length hx hy

/-! ## `RECTF` (R102) -/

/-- `RECTF` is one window, its pixels and the restore, or an error, as its row of R132 says. -/
theorem expandOf_rectf (s : State) (w : Word) :
    expandOf .rectf (s.viewFor w) =
      if windowRow .rectf s 0 then
        .items (windowItems s (s.argInt 0) (s.argInt 1) (s.argInt 2) (s.argInt 3) ++
          List.replicate ((s.argInt 2 - s.argInt 0 + 1) * (s.argInt 3 - s.argInt 1 + 1)).toNat
            (pixelItem s.args.a4) ++
          restoreItems s) false none
      else .error .invalidWindow := by
  simp only [expandOf, expandRectf, validWin_viewFor]
  rfl

/-- The number of pixels of a window with ordered ends is a product of counts (R102). -/
theorem windowArea_toNat {x0 y0 x1 y1 : Nat} (hx : x0 ≤ x1) (hy : y0 ≤ y1) :
    (((x1 : Int) - x0 + 1) * ((y1 : Int) - y0 + 1)).toNat = (x1 - x0 + 1) * (y1 - y0 + 1) := by
  rw [← Nat.cast_sub hx, ← Nat.cast_sub hy]
  exact Int.toNat_natCast _

/-- Settles O27: the corners are in order where the row of R132 holds, so the flood counts the window's pixels. -/
theorem rectfFloodsTheWindow : Obligations.RectfFloodsTheWindow := by
  intro s hp
  obtain ⟨hstarts, hrejects⟩ :=
    startsOrRejects_of_expandOf hp (append_restoreItems_ne_nil s _) (expandOf_rectf s (encode .rectf))
  refine ⟨fun hrow => ?_, hrejects⟩
  obtain ⟨hx, -, hy, -⟩ := of_decide_eq_true hrow
  have hx : s.args.a0.toNat ≤ s.args.a2.toNat := Int.ofNat_le.1 hx
  have hy : s.args.a1.toNat ≤ s.args.a3.toNat := Int.ofNat_le.1 hy
  rw [← windowArea_toNat hx hy]
  exact hstarts hrow

/-! ## `TRI` (R112) -/

/-- `TRI` is the plots of its three edges and the restore, or an error, as its row of R132 says. -/
theorem expandOf_tri (s : State) (w : Word) :
    expandOf .tri (s.viewFor w) =
      if windowRow .tri s 0 then
        .items ((closedLine (s.argInt 0) (s.argInt 1) (s.argInt 2) (s.argInt 3) ++
            closedLine (s.argInt 2) (s.argInt 3) (s.argInt 4) (s.argInt 5) ++
            closedLine (s.argInt 4) (s.argInt 5) (s.argInt 0) (s.argInt 1)).flatMap (plotItems s s.args.a6) ++
          restoreItems s) false none
      else .error .invalidWindow := by
  simp only [expandOf, expandTri, verticesOnScreen, onScreen_viewFor, ← Bool.decide_and, and_assoc, trianglePoints,
    linePoints_eq_closedLine]
  rfl

/-- Settles O30: the check is the row of R132, and each edge is a line of the closed form. -/
theorem triangleOutlineIsThreeLines : Obligations.TriangleOutlineIsThreeLines := fun s hp =>
  startsOrRejects_of_expandOf hp (append_restoreItems_ne_nil s _) (expandOf_tri s _)

end Sys2Proof.Machine
end

section
/-! Proofs of family `43_circle`, part 1: the recurrence as a chain (R103), the octant groups (R104, R105), and what
`CIRCLE` and `CIRCLEF` start the engine on (R106, R107). -/

namespace Sys2Proof.Machine

/-! ## The recurrence (R103) -/

/-- What follows an octant offset and its decision value in the recurrence (R103). -/
def circleNext (p : Int × Int × Int) : Int × Int × Int :=
  if p.2.2 < 0 then (p.1 + 1, p.2.1, p.2.2 + 4 * p.1 + 6) else (p.1 + 1, p.2.1 - 1, p.2.2 + 4 * (p.1 - p.2.1) + 10)

theorem circleNext_fst (p : Int × Int × Int) : (circleNext p).1 = p.1 + 1 := by
  unfold circleNext
  split <;> rfl

theorem circleNext_snd (p : Int × Int × Int) : (circleNext p).2.1 = if p.2.2 < 0 then p.2.1 else p.2.1 - 1 := by
  unfold circleNext
  split <;> rfl

theorem circleNext_snd_le (p : Int × Int × Int) : (circleNext p).2.1 ≤ p.2.1 := by
  rw [circleNext_snd]
  split <;> omega

/-- The offsets and decision values of the recurrence from `p` on, at most `fuel` of them (R103). -/
def circleChainFrom : Nat → Int × Int × Int → List (Int × Int × Int)
  | 0, _ => []
  | fuel + 1, p => if p.1 ≤ p.2.1 then p :: circleChainFrom fuel (circleNext p) else []

/-- The model's loop visits the offsets of the chain. -/
theorem circleStepsFrom_eq_map (fuel : Nat) (a b d : Int) :
    circleStepsFrom fuel a b d = (circleChainFrom fuel (a, b, d)).map fun p => (p.1, p.2.1) := by
  induction fuel generalizing a b d with
  | zero => rfl
  | succ fuel ih =>
    simp only [circleStepsFrom, circleChainFrom, circleNext, ih]
    split_ifs <;> rfl

theorem circleChainFrom_head? {fuel : Nat} {p q : Int × Int × Int} (h : (circleChainFrom fuel p).head? = some q) :
    q = p := by
  cases fuel with
  | zero => cases h
  | succ fuel =>
    unfold circleChainFrom at h
    split at h
    · exact (Option.some.inj h).symm
    · cases h

theorem circleChainFrom_next {fuel : Nat} {p₀ p q : Int × Int × Int} {n : Nat}
    (hp : (circleChainFrom fuel p₀)[n]? = some p) (hq : (circleChainFrom fuel p₀)[n + 1]? = some q) :
    q = circleNext p := by
  induction fuel generalizing p₀ n with
  | zero => cases hp
  | succ fuel ih =>
    unfold circleChainFrom at hp hq
    split at hp
    · rw [if_pos ‹_›, List.getElem?_cons_succ] at hq
      cases n with
      | zero =>
        obtain rfl := Option.some.inj hp
        exact circleChainFrom_head? (by rw [List.head?_eq_getElem?, hq])
      | succ n => exact ih hp hq
    · cases hp

/-- Along the chain `a` rises, `b` does not, and `a ≤ b`. -/
theorem mem_circleChainFrom {fuel : Nat} {p q : Int × Int × Int} (h : q ∈ circleChainFrom fuel p) :
    p.1 ≤ q.1 ∧ q.2.1 ≤ p.2.1 ∧ q.1 ≤ q.2.1 := by
  induction fuel generalizing p with
  | zero => cases h
  | succ fuel ih =>
    unfold circleChainFrom at h
    split at h
    · rcases List.mem_cons.1 h with rfl | h
      · exact ⟨le_rfl, le_rfl, ‹_›⟩
      · have hrest := ih h
        have ha := circleNext_fst p
        have hb := circleNext_snd_le p
        omega
    · cases h

/-- No two offsets of the chain have the same `a`. -/
theorem circleChainFrom_pairwise (fuel : Nat) (p : Int × Int × Int) :
    (circleChainFrom fuel p).Pairwise fun q q' => q.1 < q'.1 := by
  induction fuel generalizing p with
  | zero => exact .nil
  | succ fuel ih =>
    unfold circleChainFrom
    split
    · refine .cons (fun q hq => ?_) (ih _)
      have ha := circleNext_fst p
      have hrest := mem_circleChainFrom hq
      omega
    · exact .nil

/-- The chain has an offset for every `a` up to the last, with a `b` no less than those after it. -/
theorem circleChainFrom_dense {fuel : Nat} {p q : Int × Int × Int} (hq : q ∈ circleChainFrom fuel p) {a : Int}
    (hlo : p.1 ≤ a) (hhi : a ≤ q.1) : ∃ p' ∈ circleChainFrom fuel p, p'.1 = a ∧ q.2.1 ≤ p'.2.1 := by
  induction fuel generalizing p with
  | zero => cases hq
  | succ fuel ih =>
    have hb := (mem_circleChainFrom hq).2.1
    unfold circleChainFrom at hq ⊢
    split at hq
    · rw [if_pos ‹_›]
      rcases hlo.eq_or_lt with rfl | hlt
      · exact ⟨p, List.mem_cons_self, rfl, hb⟩
      · rcases List.mem_cons.1 hq with rfl | hq
        · omega
        · obtain ⟨p', hp', hrest⟩ := ih hq (by rw [circleNext_fst]; omega)
          exact ⟨p', List.mem_cons_of_mem _ hp', hrest⟩
    · cases hq

theorem circleChainFrom_eq_nil_iff {fuel : Nat} {p : Int × Int × Int} :
    circleChainFrom fuel p = [] ↔ fuel = 0 ∨ p.2.1 < p.1 := by
  cases fuel with
  | zero => simp [circleChainFrom]
  | succ fuel => simp [circleChainFrom]

/-- With fuel for every `a` from `p.1` to `p.2.1` the chain ends where the recurrence leaves the octant. -/
theorem circleChainFrom_stops {fuel : Nat} {p q : Int × Int × Int} (hfuel : p.2.1 - p.1 < fuel)
    (hq : (circleChainFrom fuel p).getLast? = some q) : (circleNext q).2.1 < (circleNext q).1 := by
  induction fuel generalizing p with
  | zero => cases hq
  | succ fuel ih =>
    have ha := circleNext_fst p
    have hb := circleNext_snd_le p
    unfold circleChainFrom at hq
    split at hq
    · rw [List.getLast?_cons] at hq
      cases hlast : (circleChainFrom fuel (circleNext p)).getLast? with
      | some q' =>
        obtain rfl : q' = q := by simpa [hlast] using hq
        exact ih (by omega) hlast
      | none =>
        obtain rfl : p = q := by simpa [hlast] using hq
        rcases circleChainFrom_eq_nil_iff.1 (List.getLast?_eq_none_iff.1 hlast) with rfl | hend
        · push_cast at hfuel
          omega
        · exact hend
    · cases hq

/-- The offsets and decision values of `Steps(r)` (R103). -/
def circleChain (r : Int) : List (Int × Int × Int) := circleChainFrom (r.toNat + 1) (0, r, 3 - 2 * r)

theorem circleSteps_eq_map (r : Int) : circleSteps r = (circleChain r).map fun p => (p.1, p.2.1) :=
  circleStepsFrom_eq_map _ _ _ _

theorem stepChain_circleChain {r : Int} (hr : 0 ≤ r) : StepChain r (circleChain r) where
  start := by rw [circleChain, circleChainFrom, if_pos hr, List.head?_cons]
  next _ _ _ := circleChainFrom_next
  inside _ hp := (mem_circleChainFrom hp).2.2
  stops p hp := by
    have hend := circleChainFrom_stops (by push_cast; omega) hp
    rwa [circleNext_fst, circleNext_snd] at hend

theorem circleSteps_pairwise (r : Int) : (circleSteps r).Pairwise fun p q => p.1 < q.1 := by
  rw [circleSteps_eq_map]
  exact (circleChainFrom_pairwise _ _).map _ fun _ _ h => h

theorem circleSteps_dense {r : Int} {q : Int × Int} (hq : q ∈ circleSteps r) {a : Int} (h0 : 0 ≤ a) (ha : a ≤ q.1) :
    ∃ b, (a, b) ∈ circleSteps r ∧ q.2 ≤ b := by
  rw [circleSteps_eq_map] at hq ⊢
  obtain ⟨p, hp, rfl⟩ := List.mem_map.1 hq
  obtain ⟨p', hp', rfl, hb⟩ := circleChainFrom_dense hp h0 ha
  exact ⟨p'.2.1, List.mem_map_of_mem hp', hb⟩

/-! ## The octant groups (R104) -/

/-- Keeping first occurrences is the library's removal of later duplicates. -/
theorem keepFirst_eq_eraseDups (seen ps : List (Int × Int)) :
    keepFirst seen ps = (ps.filter fun p => p ∉ seen).eraseDups := by
  induction ps generalizing seen with
  | nil => rfl
  | cons q ps ih =>
    unfold keepFirst
    split
    · rw [ih, List.filter_cons_of_neg (by simpa)]
    · rw [ih, List.filter_cons_of_pos (by simpa), List.eraseDups_cons, List.filter_filter]
      congr 2
      refine List.filter_congr fun p _ => ?_
      rw [Bool.eq_iff_iff]
      simp [not_or]

theorem mem_keepFirst {seen ps : List (Int × Int)} {p : Int × Int} : p ∈ keepFirst seen ps ↔ p ∈ ps ∧ p ∉ seen := by
  simp [keepFirst_eq_eraseDups, List.mem_eraseDups]

theorem keepFirst_nodup (seen ps : List (Int × Int)) : (keepFirst seen ps).Nodup := by
  induction ps generalizing seen with
  | nil => exact .nil
  | cons q ps ih =>
    unfold keepFirst
    split
    · exact ih seen
    · exact .cons (fun h => (mem_keepFirst.1 h).2 List.mem_cons_self) (ih _)

theorem oct8_eq_octants (xc yc a b : Int) : oct8 xc yc a b = octants xc yc a b := by
  simp [oct8, octants, keepFirst_eq_eraseDups]

theorem circlePoints_eq_flatMap (xc yc r : Int) :
    circlePoints xc yc r = (circleChain r).flatMap fun p => octants xc yc p.1 p.2.1 := by
  simp only [circlePoints, circleSteps_eq_map, List.flatMap_map, oct8_eq_octants]

theorem discPoints_eq_flatMap (xc yc r : Int) :
    discPoints xc yc r =
      (circleChain r).flatMap fun p => (intRange p.1 p.2.1).flatMap fun i => octants xc yc p.1 i := by
  simp only [discPoints, circleSteps_eq_map, List.flatMap_map, oct8_eq_octants]

/-! ## `CIRCLE` and `CIRCLEF` (R106, R107) -/

/-- The bounding square is checked against the dimensions of this moment (R106, R132). -/
theorem circleOnScreen_viewFor (s : State) (w : Word) :
    let l := (s.viewFor w).latch
    circleOnScreen l.cfg (l.int 0) (l.int 1) (l.int 2) = windowRow .circle s 0 := by
  simp only [circleOnScreen, ← Bool.decide_and, and_assoc]
  rfl

/-- `CIRCLE` is the plots of the groups of its steps and the restore, or an error, as its row of R132 says. -/
theorem expandOf_circle (s : State) (w : Word) :
    expandOf .circle (s.viewFor w) =
      if windowRow .circle s 0 then
        .items (((circleChain (s.argInt 2)).flatMap fun p => octants (s.argInt 0) (s.argInt 1) p.1 p.2.1).flatMap
            (plotItems s s.args.a3) ++
          restoreItems s) false none
      else .error .invalidWindow := by
  simp only [expandOf, expandCircle, circleOnScreen_viewFor, circlePoints_eq_flatMap]
  rfl

/-- `CIRCLEF` is the plots of the groups its steps sweep and the restore, or an error, as its row of R132 says. -/
theorem expandOf_circlef (s : State) (w : Word) :
    expandOf .circlef (s.viewFor w) =
      if windowRow .circlef s 0 then
        .items (((circleChain (s.argInt 2)).flatMap fun p =>
            (intRange p.1 p.2.1).flatMap fun i => octants (s.argInt 0) (s.argInt 1) p.1 i).flatMap
              (plotItems s s.args.a3) ++
          restoreItems s) false none
      else .error .invalidWindow := by
  simp only [expandOf, expandCirclef, circleOnScreen_viewFor, discPoints_eq_flatMap]
  rfl

/-- Settles O28: the chain is that of the recurrence, for a latched radius is not negative. -/
theorem circleOutlineFollowsTheRecurrence : Obligations.CircleOutlineFollowsTheRecurrence := fun s hp =>
  have ⟨hstarts, hrejects⟩ :=
    startsOrRejects_of_expandOf hp (append_restoreItems_ne_nil s _) (expandOf_circle s (encode .circle))
  ⟨fun hrow => ⟨_, stepChain_circleChain (Int.natCast_nonneg _), hstarts hrow⟩, hrejects⟩

/-- Settles O29: the same chain, each of its steps swept. -/
theorem circleFillSweepsEachStep : Obligations.CircleFillSweepsEachStep := fun s hp =>
  have ⟨hstarts, hrejects⟩ :=
    startsOrRejects_of_expandOf hp (append_restoreItems_ne_nil s _) (expandOf_circlef s (encode .circlef))
  ⟨fun hrow => ⟨_, stepChain_circleChain (Int.natCast_nonneg _), hstarts hrow⟩, hrejects⟩

/-! ## The points of a circle and of its disc (R105) -/

/-- The octant offset of a point: the distances from the centre along the two axes, the smaller first. -/
def octantOffset (xc yc : Int) (p : Int × Int) : Int × Int :=
  (min ((p.1 - xc).natAbs : Int) (p.2 - yc).natAbs, max ((p.1 - xc).natAbs : Int) (p.2 - yc).natAbs)

/-- The group of an offset in the octant holds exactly the points of that offset. -/
theorem mem_oct8_iff {xc yc a b : Int} {p : Int × Int} (ha : 0 ≤ a) (hab : a ≤ b) :
    p ∈ oct8 xc yc a b ↔ octantOffset xc yc p = (a, b) := by
  obtain ⟨x, y⟩ := p
  simp only [oct8, mem_keepFirst, List.mem_cons, List.not_mem_nil, not_false_eq_true, and_true, or_false,
    octantOffset, Prod.mk.injEq]
  omega

/-- The points of the groups of a list of offsets. -/
def octantPoints (xc yc : Int) (os : List (Int × Int)) : List (Int × Int) :=
  os.flatMap fun ab => oct8 xc yc ab.1 ab.2

section
variable {xc yc : Int} {os : List (Int × Int)} (hos : ∀ ab ∈ os, 0 ≤ ab.1 ∧ ab.1 ≤ ab.2)
include hos

theorem mem_octantPoints {p : Int × Int} : p ∈ octantPoints xc yc os ↔ octantOffset xc yc p ∈ os := by
  rw [octantPoints, List.mem_flatMap]
  constructor
  · rintro ⟨ab, hab, hp⟩
    rwa [(mem_oct8_iff (hos ab hab).1 (hos ab hab).2).1 hp]
  · intro hp
    exact ⟨_, hp, (mem_oct8_iff (hos _ hp).1 (hos _ hp).2).2 rfl⟩

/-- The groups of different offsets share no point. -/
theorem octantPoints_nodup (hnd : os.Nodup) : (octantPoints xc yc os).Nodup := by
  refine List.nodup_flatMap.2 ⟨fun _ _ => keepFirst_nodup _ _, hnd.imp_of_mem fun {ab ab'} hab hab' hne p hp hp' => ?_⟩
  have h := (mem_oct8_iff (hos ab hab).1 (hos ab hab).2).1 hp
  have h' := (mem_oct8_iff (hos ab' hab').1 (hos ab' hab').2).1 hp'
  exact hne (h.symm.trans h')

end

/-- The offsets of the fill: each step of the recurrence swept from its `a` to its `b` (R107). -/
def discOffsets (r : Int) : List (Int × Int) := (circleSteps r).flatMap fun ab => (intRange ab.1 ab.2).map (ab.1, ·)

theorem circlePoints_eq_octantPoints (xc yc r : Int) : circlePoints xc yc r = octantPoints xc yc (circleSteps r) := rfl

theorem discPoints_eq_octantPoints (xc yc r : Int) : discPoints xc yc r = octantPoints xc yc (discOffsets r) := by
  simp only [discPoints, octantPoints, discOffsets, List.flatMap_assoc, List.flatMap_map]

theorem mem_discOffsets {r : Int} {o : Int × Int} :
    o ∈ discOffsets r ↔ ∃ b, (o.1, b) ∈ circleSteps r ∧ o.1 ≤ o.2 ∧ o.2 ≤ b := by
  simp only [discOffsets, List.mem_flatMap, List.mem_map, mem_intRange]
  constructor
  · rintro ⟨ab, hab, i, hi, rfl⟩
    exact ⟨ab.2, hab, hi⟩
  · rintro ⟨b, hb, hi⟩
    exact ⟨_, hb, o.2, hi, rfl⟩

theorem circleSteps_octant {r : Int} : ∀ ab ∈ circleSteps r, 0 ≤ ab.1 ∧ ab.1 ≤ ab.2 := fun _ hab =>
  ⟨(mem_circleSteps hab).1, (mem_circleSteps hab).2.1⟩

theorem discOffsets_octant {r : Int} : ∀ ab ∈ discOffsets r, 0 ≤ ab.1 ∧ ab.1 ≤ ab.2 := fun _ hab =>
  have ⟨_, hb, hle, _⟩ := mem_discOffsets.1 hab
  ⟨(mem_circleSteps hb).1, hle⟩

theorem circleSteps_nodup (r : Int) : (circleSteps r).Nodup :=
  (circleSteps_pairwise r).imp fun h heq => h.ne (congrArg Prod.fst heq)

theorem intRange_nodup (a b : Int) : (intRange a b).Nodup := by
  rw [intRange_eq_map]
  exact List.nodup_range.map fun i j h => by simpa using h

/-- The sweeps of different steps share no offset, for their `a` differ. -/
theorem discOffsets_nodup (r : Int) : (discOffsets r).Nodup := by
  refine List.nodup_flatMap.2 ⟨fun ab _ => (intRange_nodup _ _).map fun i j h => (Prod.mk.inj h).2,
    (circleSteps_pairwise r).imp fun hlt o ho ho' => ?_⟩
  obtain ⟨i, -, rfl⟩ := List.mem_map.1 ho
  obtain ⟨j, -, hj⟩ := List.mem_map.1 ho'
  exact hlt.ne (Prod.mk.inj hj).1.symm

/-- Each step of the recurrence is the last offset of its sweep (R107). -/
theorem circleSteps_subset_discOffsets {r : Int} {ab : Int × Int} (h : ab ∈ circleSteps r) : ab ∈ discOffsets r :=
  mem_discOffsets.2 ⟨ab.2, h, (mem_circleSteps h).2.1, le_rfl⟩

/-- The fill holds with an offset every smaller one of the octant: an earlier step sweeps at least as far. -/
theorem discOffsets_of_le {r : Int} {o o' : Int × Int} (ho : o ∈ discOffsets r) (h0 : 0 ≤ o'.1) (h : o'.1 ≤ o'.2)
    (h1 : o'.1 ≤ o.1) (h2 : o'.2 ≤ o.2) : o' ∈ discOffsets r := by
  obtain ⟨b, hb, -, hle⟩ := mem_discOffsets.1 ho
  obtain ⟨b', hb', hle'⟩ := circleSteps_dense hb h0 h1
  exact mem_discOffsets.2 ⟨b', hb', h, (h2.trans hle).trans hle'⟩

theorem circlePoints_head? (xc yc : Int) {r : Int} (hr : 0 ≤ r) :
    (circlePoints xc yc r).head? = some (xc, yc - r) := by
  rw [circlePoints, circleSteps, circleStepsFrom, if_pos hr]
  simp [oct8, keepFirst]

/-- Settles O54: a group holds exactly the points of its offset, the outline's offsets are the steps of the recurrence,
and the fill's are those below them. -/
theorem discCoversItsCircle : Obligations.DiscCoversItsCircle := by
  intro xc yc r hr
  refine ⟨octantPoints_nodup circleSteps_octant (circleSteps_nodup r), ?_, fun p hp => ?_, fun p hp => ?_,
    circlePoints_head? xc yc hr, fun p hp x hx => ?_⟩
  · rw [discPoints_eq_octantPoints]
    exact octantPoints_nodup discOffsets_octant (discOffsets_nodup r)
  · rw [circlePoints_eq_octantPoints, mem_octantPoints circleSteps_octant] at hp
    rw [discPoints_eq_octantPoints, mem_octantPoints discOffsets_octant]
    exact circleSteps_subset_discOffsets hp
  · obtain ⟨⟨hxlo, hxhi⟩, hy⟩ := mem_discPoints hp
    exact ⟨hxlo, hxhi, hy⟩
  · rw [discPoints_eq_octantPoints, mem_octantPoints discOffsets_octant] at hp ⊢
    exact discOffsets_of_le hp (by simp [octantOffset]) (by simp [octantOffset]) (by simp only [octantOffset]; omega)
      (by simp only [octantOffset]; omega)

end Sys2Proof.Machine
end

section
/-! Proofs of family `43_circle`, part 2: the spans of a triangle in closed form (R110). -/

namespace Sys2Proof.Machine

theorem orderedSpan_eq (y a b : Int) : orderedSpan y a b = (y, min a b, max a b) := by
  unfold orderedSpan
  split
  · rw [min_eq_right (by omega), max_eq_left (by omega)]
  · rw [min_eq_left (by omega), max_eq_right (by omega)]

/-- Rows `y..hi` of a half whose edges have come from the rows `ya` and `yb` (R110). -/
theorem scanRows_eq_map_intRange (xa ya dxa dya xb yb dxb dyb y hi : Int) :
    scanRows xa dxa dya xb dxb dyb (hi - y + 1).toNat y (dxa * (y - ya)) (dxb * (y - yb)) =
      (intRange y hi).map fun row =>
        orderedSpan row (xa + Int.tdiv (dxa * (row - ya)) dya) (xb + Int.tdiv (dxb * (row - yb)) dyb) := by
  rw [scanRows_eq_map, intRange_eq_map, List.map_map]
  refine List.map_congr_left fun k _ => ?_
  have hrow (dx y0 : Int) : dx * (y - y0) + dx * k = dx * (y + k - y0) := by ring
  simp only [Function.comp_apply, hrow]

theorem intRange_append {a m b : Int} (ha : a ≤ m + 1) (hb : m ≤ b) :
    intRange a m ++ intRange (m + 1) b = intRange a b := by
  have hlen : (b - a + 1).toNat = (m - a + 1).toNat + (b - (m + 1) + 1).toNat := by omega
  simp only [intRange_eq_map, hlen, List.range_add, List.map_append, List.map_map]
  congr 1
  refine List.map_congr_left fun k _ => ?_
  simp only [Function.comp_apply, Nat.cast_add]
  omega

/-- The two halves of the fill are the rows above the split row and those from it on (R110). -/
theorem sortedSpans_eq_closedSpans {p0 p1 p2 : Int × Int} (h01 : p0.2 ≤ p1.2) (h12 : p1.2 ≤ p2.2) :
    sortedSpans p0 p1 p2 = closedSpans p0 p1 p2 := by
  unfold sortedSpans closedSpans
  split
  · rfl
  · generalize hlast : (if p1.2 = p2.2 then p1.2 else p1.2 - 1) = last
    have hlo : p0.2 ≤ last + 1 := by split at hlast <;> omega
    have hhi : last ≤ p2.2 := by split at hlast <;> omega
    have hupper := scanRows_eq_map_intRange p0.1 p0.2 (p1.1 - p0.1) (p1.2 - p0.2) p0.1 p0.2 (p2.1 - p0.1)
      (p2.2 - p0.2) p0.2 last
    rw [Int.sub_self, Int.mul_zero, Int.mul_zero] at hupper
    dsimp only
    rw [hupper, scanRows_eq_map_intRange, ← intRange_append hlo hhi, List.map_append]
    congr 1
    · refine List.map_congr_left fun row hrow => ?_
      have hedge : row < p1.2 ∨ p1.2 = p2.2 := by
        have := (mem_intRange.1 hrow).2
        split at hlast <;> omega
      rw [orderedSpan_eq, closedSpan, if_pos hedge]
    · refine List.map_congr_left fun row hrow => ?_
      have hedge : ¬(row < p1.2 ∨ p1.2 = p2.2) := by
        have := mem_intRange.1 hrow
        split at hlast <;> omega
      rw [orderedSpan_eq, closedSpan, if_neg hedge]

theorem triangleSpans_eq_closedSpans (p0 p1 p2 : Int × Int) :
    triangleSpans p0 p1 p2 =
      closedSpans (sortY p0 p1 p2).1 (sortY p0 p1 p2).2.1 (sortY p0 p1 p2).2.2 :=
  have ⟨h01, h12⟩ := (sortY_spec p0 p1 p2).1
  sortedSpans_eq_closedSpans h01 h12

end Sys2Proof.Machine
end

section
/-! Proofs of family `43_circle`, part 3: how many transactions and bytes each command puts on the bus (R159). -/

namespace Sys2Proof.Machine

/-! ## Counting (R83 to R87) -/

/-- The items put `tx` transactions and `bytes` bytes on the bus. -/
def Sends (its : List Item) (tx bytes : Nat) : Prop :=
  (txsOf its).length = tx ∧ (wireBytes (txsOf its)).length = bytes

section
variable {a b its : List Item} {m n tx bytes : Nat}

theorem Sends.nil : Sends [] 0 0 := ⟨rfl, rfl⟩

theorem Sends.append (ha : Sends a tx bytes) (hb : Sends b m n) : Sends (a ++ b) (tx + m) (bytes + n) := by
  obtain ⟨rfl, rfl⟩ := ha
  obtain ⟨rfl, rfl⟩ := hb
  rw [Sends, txsOf_append, wireBytes_append]
  exact ⟨List.length_append, List.length_append⟩

theorem Sends.flatMap {α : Type} {l : List α} {f : α → List Item} {tx bytes : α → Nat}
    (h : ∀ x ∈ l, Sends (f x) (tx x) (bytes x)) : Sends (l.flatMap f) (l.map tx).sum (l.map bytes).sum := by
  induction l with
  | nil => exact .nil
  | cons x l ih =>
    obtain ⟨hx, hl⟩ := List.forall_mem_cons.1 h
    exact hx.append (ih hl)

/-- Items of the same length each are a product. -/
theorem Sends.flatMap_const {α : Type} {l : List α} {f : α → List Item} (h : ∀ x ∈ l, Sends (f x) tx bytes) :
    Sends (l.flatMap f) (tx * l.length) (bytes * l.length) := by
  simpa [mul_comm] using Sends.flatMap h

/-- One pixel is one transaction of two bytes (R86). -/
theorem Sends.pixel (v : Half) : Sends [.tx (Tx.data16 v)] 1 2 := ⟨rfl, rfl⟩

theorem Sends.pixels {α : Type} (l : List α) (f : α → Half) :
    Sends (l.map fun x => .tx (Tx.data16 (f x))) l.length (2 * l.length) := by
  have h := Sends.flatMap_const fun x (_ : x ∈ l) => Sends.pixel (f x)
  rwa [one_mul, ← List.map_eq_flatMap] at h

theorem solidPixels_sends (n : Nat) (colour : Half) : Sends (solidPixels n colour) n (2 * n) := by
  simpa [solidPixels] using Sends.pixels (List.range n) fun _ => colour

/-- A window sequence is eleven transactions of one byte (R93). -/
theorem winSeq_sends (c : LatchedCfg) (x0 y0 x1 y1 : Int) : Sends (winSeq c x0 y0 x1 y1) 11 11 := ⟨rfl, rfl⟩

theorem fullWin_sends (c : LatchedCfg) : Sends (fullWin c) 11 11 := winSeq_sends c _ _ _ _

theorem plot_sends (c : LatchedCfg) (colour : Half) (p : Int × Int) : Sends (plot c colour p) 12 13 :=
  (winSeq_sends c _ _ _ _).append (.pixel colour)

theorem plots_sends (c : LatchedCfg) (colour : Half) (ps : List (Int × Int)) :
    Sends (plots c colour ps) (12 * ps.length) (13 * ps.length) :=
  .flatMap_const fun p _ => plot_sends c colour p

/-- A window flooded with `n` pixels (R102, R124, R125). -/
theorem flood_sends (c : LatchedCfg) (x0 y0 x1 y1 : Int) (h : Sends its n (2 * n)) :
    Sends (winSeq c x0 y0 x1 y1 ++ its) (11 + n) (11 + 2 * n) := (winSeq_sends c x0 y0 x1 y1).append h

end

/-! ## Expansions that emit something -/

section
variable {p : Prop} [Decidable p] {e : Expansion} {its : List Item} {fb : Bool} {b : Option BulkBuffer}

theorem items_of_checked {code : ErrCode} (h : (if p then e else .error code) = .items its fb b) :
    p ∧ e = .items its fb b := by
  split at h
  · exact ⟨‹p›, h⟩
  · cases h

theorem items_of_rejected {code : ErrCode} (h : (if p then .error code else e) = .items its fb b) :
    e = .items its fb b := by
  split at h
  · cases h
  · exact h

theorem items_of_nothing (hne : its ≠ []) (h : (if p then .items [] false none else e) = .items its fb b) :
    e = .items its fb b := by
  split at h
  · cases h
    exact absurd rfl hne
  · exact h

end

section
variable {c : LatchedCfg} {body its : List Item} {fb : Bool} {b : Option BulkBuffer} {tx bytes : Nat}

/-- A drawing sends its body and the restore (R94). -/
theorem drawn_sends (hbody : Sends body tx bytes) (h : drawn c body = .items its fb b) :
    Sends its (tx + 11) (bytes + 11) := by
  cases h
  exact hbody.append (fullWin_sends c)

theorem drawn_plots_sends {colour : Half} {ps : List (Int × Int)} {n : Nat} (hn : ps.length = n)
    (h : drawn c (plots c colour ps) = .items its fb b) : Sends its (12 * n + 11) (13 * n + 11) :=
  hn ▸ drawn_sends (plots_sends c colour ps) h

/-- A flooded window and the restore (R102, R124). -/
theorem drawn_flood_sends {x0 y0 x1 y1 : Int} {n : Nat} (hbody : Sends body n (2 * n))
    (h : drawn c (winSeq c x0 y0 x1 y1 ++ body) = .items its fb b) : Sends its (22 + n) (22 + 2 * n) := by
  obtain ⟨htx, hbytes⟩ := drawn_sends (flood_sends c x0 y0 x1 y1 hbody) h
  exact ⟨by omega, by omega⟩

end

/-! ## Scanlines and glyphs (R108, R115, R116) -/

theorem spanItems_sends (c : LatchedCfg) (colour : Half) (sp : ScanSpan) :
    Sends (spanItems c colour sp) (11 + (sp.2.2 - sp.2.1 + 1).toNat) (11 + 2 * (sp.2.2 - sp.2.1 + 1).toNat) :=
  flood_sends c _ _ _ _ (solidPixels_sends _ _)

theorem glyphCells_length (s : Nat) : (glyphCells s).length = s / 2 * s := by
  simp [glyphCells, List.length_flatMap, glyphWidth, mul_comm]

/-- The plots of a glyph in overlay mode are its set bits (R116). -/
theorem glyphCells_countP (rom : GlyphRom) (s code : Nat) :
    (glyphCells s).countP (fun p => rom.bit s code p.2 p.1) = glyphDots rom s code := by
  simp only [glyphCells, List.countP_flatMap, Function.comp_def, List.countP_map]
  rfl

/-- A glyph in background mode floods its cell (R115). -/
theorem glyph_sends_background (c : LatchedCfg) (rom : GlyphRom) (x y : Int) (fg bg : Half) (code s : Nat) :
    Sends (glyph c rom x y fg bg code s false) (11 + s / 2 * s) (11 + 2 * (s / 2 * s)) := by
  rw [← glyphCells_length]
  exact flood_sends c _ _ _ _ (.pixels _ _)

/-- A glyph in overlay mode plots its set bits (R115, R116). -/
theorem glyph_sends_overlay (c : LatchedCfg) (rom : GlyphRom) (x y : Int) (fg bg : Half) (code s : Nat) :
    Sends (glyph c rom x y fg bg code s true) (12 * glyphDots rom s code) (13 * glyphDots rom s code) := by
  rw [← glyphCells_countP, List.countP_eq_length_filter, ← List.length_map]
  exact plots_sends c fg _

/-- A run sends what its glyphs send. -/
theorem glyphRun_sends {c : LatchedCfg} {rom : GlyphRom} {y : Int} {fg bg : Half} {s : Nat} {ov : Bool}
    {tx bytes : Nat → Nat} (h : ∀ x code, Sends (glyph c rom x y fg bg code s ov) (tx code) (bytes code))
    (x : Int) (codes : List Nat) :
    Sends (glyphRun c rom y fg bg s ov x codes) (codes.map tx).sum (codes.map bytes).sum := by
  induction codes generalizing x with
  | nil => exact .nil
  | cons code codes ih => exact (h x code).append (ih _)

/-- The counts of R159 for a run of codes and the restore, by the mode. -/
def SendsGlyphs (rom : GlyphRom) (s : Nat) (ov : Bool) (codes : List Nat) (its : List Item) : Prop :=
  if ov then
    Sends its (12 * (codes.map (glyphDots rom s)).sum + 11) (13 * (codes.map (glyphDots rom s)).sum + 11)
  else Sends its (codes.length * (11 + s / 2 * s) + 11) (codes.length * (11 + 2 * (s / 2 * s)) + 11)

theorem finish_glyphRun_sends {c : LatchedCfg} {rom : GlyphRom} {x y : Int} {fg bg : Half} {s : Nat} {ov : Bool}
    {codes : List Nat} {its : List Item} {fb : Bool} {b : Option BulkBuffer} (hne : its ≠ [])
    (h : finish c (glyphRun c rom y fg bg s ov x codes) = .items its fb b) : SendsGlyphs rom s ov codes its := by
  have hdrawn : drawn c (glyphRun c rom y fg bg s ov x codes) = .items its fb b := by
    unfold finish at h
    split at h
    · exact h
    · cases h
      exact absurd rfl hne
  cases ov with
  | false =>
    have hrun := glyphRun_sends (fun x code => glyph_sends_background c rom x y fg bg code s) x codes
    rw [List.map_const', List.map_const', List.sum_replicate, List.sum_replicate, smul_eq_mul, smul_eq_mul] at hrun
    exact drawn_sends hrun hdrawn
  | true =>
    have hrun := glyphRun_sends (fun x code => glyph_sends_overlay c rom x y fg bg code s) x codes
    rw [List.sum_map_mul_left, List.sum_map_mul_left] at hrun
    exact drawn_sends hrun hdrawn

theorem printable_eq (b : Nat) : printable b = decide (0x20 ≤ b ∧ b ≤ 0x7E) := (Bool.decide_and _ _).symm

theorem printableBytes_eq_printableAt (l : Latch) (m : List Host.Cell) (len : Nat) :
    printableBytes m l.wide.toNat len = printableAt m (l.nat 7 * 2 ^ 16 + l.nat 6) len := by
  rw [Latch.wide_toNat]
  simp only [printableBytes, strBytes, printableAt, memRead_one, Nat.mod_mod, funext printable_eq]
  rfl

/-! ## The commands (R159) -/

section
variable {v : View} {its : List Item} {fb : Bool} {b : Option BulkBuffer}

/-- The corners of an accepted `RECT` are in order, so its edges have `2w + 2h` plots (R101). -/
theorem rect_sends (h : expandOf .rect v = .items its fb b) :
    let l := v.latch
    let n := 2 * (l.nat 2 - l.nat 0 + 1) + 2 * (l.nat 3 - l.nat 1 + 1)
    Sends its (12 * n + 11) (13 * n + 11) := by
  obtain ⟨hwin, hdrawn⟩ := items_of_checked h
  obtain ⟨⟨-, hx, -⟩, -, hy, -⟩ := validWin_iff.1 hwin
  have hlen := rectPoints_length hx hy
  refine drawn_plots_sends ?_ hdrawn
  simp only [Latch.int, Latch.nat] at hx hy hlen ⊢
  omega

theorem rectf_sends (h : expandOf .rectf v = .items its fb b) :
    let l := v.latch
    let n := (l.nat 2 - l.nat 0 + 1) * (l.nat 3 - l.nat 1 + 1)
    Sends its (22 + n) (22 + 2 * n) := by
  obtain ⟨hwin, hdrawn⟩ := items_of_checked h
  obtain ⟨⟨-, hx, -⟩, -, hy, -⟩ := validWin_iff.1 hwin
  have harea : ((v.latch.int 2 - v.latch.int 0 + 1) * (v.latch.int 3 - v.latch.int 1 + 1)).toNat = _ :=
    windowArea_toNat (Int.ofNat_le.1 hx) (Int.ofNat_le.1 hy)
  rw [harea] at hdrawn
  exact drawn_flood_sends (solidPixels_sends _ _) hdrawn

theorem tri_sends (h : expandOf .tri v = .items its fb b) :
    let a := fun k : Fin 8 => (v.latch.args.get k).toNat
    let edge := fun x0 y0 x1 y1 : Nat => max ((x1 : Int) - x0).natAbs ((y1 : Int) - y0).natAbs + 1
    let n := edge (a 0) (a 1) (a 2) (a 3) + edge (a 2) (a 3) (a 4) (a 5) + edge (a 4) (a 5) (a 0) (a 1)
    Sends its (12 * n + 11) (13 * n + 11) := by
  refine drawn_plots_sends ?_ (items_of_checked h).2
  simp only [trianglePoints, List.length_append, linePoints_length]
  rfl

theorem trif_sends (h : expandOf .trif v = .items its fb b) :
    let l := v.latch
    let p := sortY (l.vertex 0) (l.vertex 1) (l.vertex 2)
    let widths := (closedSpans p.1 p.2.1 p.2.2).map fun sp => (sp.2.2 - sp.2.1 + 1).toNat
    Sends its ((widths.map fun w => 11 + w).sum + 11) ((widths.map fun w => 11 + 2 * w).sum + 11) := by
  have hsends := drawn_sends (.flatMap fun sp _ => spanItems_sends _ _ sp) (items_of_checked h).2
  rw [triangleSpans_eq_closedSpans] at hsends
  simpa only [List.map_map, Function.comp_def] using hsends

theorem textchar_sends (hne : its ≠ []) {ov : Bool} (h : expandOf (.textchar ov) v = .items its fb b) :
    SendsGlyphs v.rom (v.latch.nat 5) ov [v.latch.nat 4] its := by
  have hfinish := items_of_rejected (items_of_rejected (items_of_rejected h))
  rw [← List.append_nil (glyph _ _ _ _ _ _ _ _ _)] at hfinish
  exact finish_glyphRun_sends hne hfinish

/-- `TEXTSTR` and `TEXTCTR` run the printable bytes of their string operand (R118, R120, R121). -/
theorem string_sends {c : LatchedCfg} {x y : Int} {fg bg : Half} (hne : its ≠ []) {ov : Bool}
    (h : finish c (glyphRun c v.rom y fg bg (v.latch.nat 5) ov x
      (printableBytes v.mem v.latch.wide.toNat (v.latch.nat 4))) = .items its fb b) :
    SendsGlyphs v.rom (v.latch.nat 5) ov
      (printableAt v.mem (v.latch.nat 7 * 2 ^ 16 + v.latch.nat 6) (v.latch.nat 4)) its := by
  rw [← printableBytes_eq_printableAt]
  exact finish_glyphRun_sends hne h

theorem numeric_sends (hne : its ≠ []) {ov : Bool} (h : expandOf (.numeric ov) v = .items its fb b) :
    SendsGlyphs v.rom (v.latch.nat 5) ov
      (digitCodes (v.latch.nat 7 * 2 ^ 16 + v.latch.nat 6) (v.latch.nat 4)) its := by
  have hwide : v.latch.wide.toNat = v.latch.nat 7 * 2 ^ 16 + v.latch.nat 6 := v.latch.wide_toNat
  rw [← hwide]
  exact finish_glyphRun_sends hne (items_of_rejected (items_of_rejected (items_of_nothing hne h)))

theorem blit_sends (h : expandOf .blit v = .items its fb b) :
    let n := v.latch.nat 2 * v.latch.nat 3
    Sends its (22 + n) (22 + 2 * n) := by
  have hpixels := Sends.pixels (List.range (v.latch.nat 2 * v.latch.nat 3)) (rasterPixel v.mem v.latch.wide.toNat)
  rw [List.length_range] at hpixels
  exact drawn_flood_sends hpixels (items_of_checked h).2

/-- The pixels of `FILLSCR` are one transaction on the bulk path, which holds a buffer, and one each on the other
(R125). -/
theorem fillscr_sends (h : expandOf .fillscr v = .items its fb b) :
    let n := v.latch.cfg.width.toNat * v.latch.cfg.height.toNat
    (wireBytes (txsOf its)).length = 22 + 2 * n ∧ (b = none → (txsOf its).length = 22 + n) ∧
      (b ≠ none → (txsOf its).length = 23) := by
  have hn : (v.latch.cfg.w * v.latch.cfg.h).toNat = v.latch.cfg.width.toNat * v.latch.cfg.height.toNat := by
    rw [LatchedCfg.w, LatchedCfg.h, ← Nat.cast_mul, Int.toNat_natCast]
  simp only [expandOf, expandFillscr, hn] at h
  have hrestore := fullWin_sends v.latch.cfg
  split at h
  · cases h
    have hbulk (n : Nat) (colour : Half) : Sends [.tx (Tx.bulk (BulkBuffer.bytes ⟨n, colour⟩))] 1 (2 * n) :=
      ⟨rfl, by rw [← (solidPixels_sends n colour).2, txsOf_solidPixels, ← wireBytes_fill]; rfl⟩
    obtain ⟨htx, hbytes⟩ := (hrestore.append (hbulk _ _)).append hrestore
    exact ⟨by omega, nofun, fun _ => htx⟩
  · cases h
    have hpixels := solidPixels_sends (v.latch.cfg.width.toNat * v.latch.cfg.height.toNat) (v.latch.half 0)
    obtain ⟨htx, hbytes⟩ := (hrestore.append hpixels).append hrestore
    exact ⟨by omega, fun _ => by omega, fun h => absurd rfl h⟩

end

/-- Settles O57, command by command: each accepted expansion is put together from windows, pixels and plots, and a
drawing ends with the restore. -/
theorem streamLengths : Obligations.StreamLengths := by
  refine ⟨fun v => rfl, fun v its fb b hne => ?_⟩
  intro tx bytes a plots edge n glyphs wide
  refine ⟨?wrcmd, ?wrdata8, ?wrdata16, ?setwin, ?setorient, ?point, ?line, rect_sends, rectf_sends, ?circle, ?circlef,
    tri_sends, trif_sends, fun _ => textchar_sends hne, ?textstr, ?textctr, fun _ => numeric_sends hne, blit_sends,
    fillscr_sends⟩
  case wrcmd | wrdata8 | wrdata16 =>
    intro h
    cases h
    exact ⟨rfl, rfl⟩
  case setwin =>
    intro h
    cases (items_of_checked h).2
    exact winSeq_sends _ _ _ _ _
  case setorient =>
    intro h
    cases items_of_rejected h
    exact ⟨rfl, rfl⟩
  case point => exact fun h => drawn_sends (plot_sends _ _ _) (items_of_checked h).2
  case line => exact fun h => drawn_plots_sends (linePoints_length _ _ _ _) (items_of_checked h).2
  case textstr | textctr =>
    exact fun _ h => string_sends hne (items_of_rejected (items_of_nothing hne (items_of_rejected h)))
  case circle =>
    refine fun h => ⟨_, stepChain_circleChain (Int.natCast_nonneg _), drawn_plots_sends ?_ (items_of_checked h).2⟩
    exact congrArg List.length (circlePoints_eq_flatMap _ _ _)
  case circlef =>
    refine fun h => ⟨_, stepChain_circleChain (Int.natCast_nonneg _), drawn_plots_sends ?_ (items_of_checked h).2⟩
    exact congrArg List.length (discPoints_eq_flatMap _ _ _)

end Sys2Proof.Machine
end

section
/-! Proofs of family `44_triangle`: the stable sort of the vertices (R109), the spans of a fill (R111), and what `TRIF`
starts the engine on (R110, R113). -/

namespace Sys2Proof.Machine

/-! ## The vertex sort (R109) -/

/-- `l` is `l'` reordered with the vertices of each row in their order: what a strict swap keeps (R109). -/
def StableReorder (l l' : List (Int × Int)) : Prop :=
  l.Perm l' ∧ ∀ y : Int, l.filter (fun p => p.2 == y) = l'.filter (fun p => p.2 == y)

theorem StableReorder.trans {a b c : List (Int × Int)} (h : StableReorder a b) (h' : StableReorder b c) :
    StableReorder a c :=
  ⟨h.1.trans h'.1, fun y => (h.2 y).trans (h'.2 y)⟩

theorem StableReorder.append_left {a b : List (Int × Int)} (l : List (Int × Int)) (h : StableReorder a b) :
    StableReorder (l ++ a) (l ++ b) :=
  ⟨h.1.append_left l, fun y => by rw [List.filter_append, List.filter_append, h.2 y]⟩

theorem StableReorder.append_right {a b : List (Int × Int)} (l : List (Int × Int)) (h : StableReorder a b) :
    StableReorder (a ++ l) (b ++ l) :=
  ⟨h.1.append_right l, fun y => by rw [List.filter_append, List.filter_append, h.2 y]⟩

/-- A row holds at most one of two vertices of different rows, so their order does not show in it. -/
theorem stableReorder_swap {p q : Int × Int} (h : p.2 ≠ q.2) : StableReorder [q, p] [p, q] := by
  refine ⟨.swap p q [], fun y => ?_⟩
  by_cases hp : p.2 = y
  · have hq : q.2 ≠ y := fun hq => h (hp.trans hq.symm)
    simp [hp, hq]
  · simp [hp, List.filter_cons]

theorem stableReorder_swapByRow (p q : Int × Int) :
    StableReorder [(swapByRow p q).1, (swapByRow p q).2] [p, q] := by
  unfold swapByRow
  split
  · next h => exact stableReorder_swap h.ne'
  · exact ⟨.rfl, fun _ => rfl⟩

/-- Each of the three swaps is a stable reordering of its two vertices beside the third (R109). -/
theorem stableReorder_sortY (p0 p1 p2 : Int × Int) :
    StableReorder [(sortY p0 p1 p2).1, (sortY p0 p1 p2).2.1, (sortY p0 p1 p2).2.2] [p0, p1, p2] :=
  ((stableReorder_swapByRow _ _).append_right [_]).trans <|
    ((stableReorder_swapByRow _ _).append_left [_]).trans <|
      (stableReorder_swapByRow p0 p1).append_right [p2]

/-- Settles O55: the three swaps order the rows, and each is a stable reordering. -/
theorem vertexSortIsStable : Obligations.VertexSortIsStable := fun p0 p1 p2 =>
  have ⟨h01, h12⟩ := (sortY_spec p0 p1 p2).1
  ⟨h01, h12, stableReorder_sortY p0 p1 p2⟩

/-- The sort loses no vertex (R109). -/
theorem mem_sortY {p0 p1 p2 p : Int × Int} (h : p ∈ [p0, p1, p2]) :
    p ∈ [(sortY p0 p1 p2).1, (sortY p0 p1 p2).2.1, (sortY p0 p1 p2).2.2] :=
  (stableReorder_sortY p0 p1 p2).1.mem_iff.2 h

/-- The sorted vertices have the rows of the input between the first and the last of them (R109). -/
theorem sortY_row_between {p0 p1 p2 p : Int × Int} (h : p ∈ [p0, p1, p2]) :
    (sortY p0 p1 p2).1.2 ≤ p.2 ∧ p.2 ≤ (sortY p0 p1 p2).2.2.2 := by
  obtain ⟨h01, h12⟩ := (sortY_spec p0 p1 p2).1
  have h := mem_sortY h
  simp only [List.mem_cons, List.not_mem_nil, or_false] at h
  rcases h with rfl | rfl | rfl <;> omega

/-- The first sorted vertex has the least row, the last one the greatest (R109). -/
theorem sortY_rows (p0 p1 p2 : Int × Int) :
    (sortY p0 p1 p2).1.2 = min p0.2 (min p1.2 p2.2) ∧ (sortY p0 p1 p2).2.2.2 = max p0.2 (max p1.2 p2.2) := by
  have h0 := sortY_row_between (p0 := p0) (p1 := p1) (p2 := p2) (p := p0) (by simp)
  have h1 := sortY_row_between (p0 := p0) (p1 := p1) (p2 := p2) (p := p1) (by simp)
  have h2 := sortY_row_between (p0 := p0) (p1 := p1) (p2 := p2) (p := p2) (by simp)
  obtain ⟨hlo, -, hhi⟩ := (sortY_spec p0 p1 p2).2
    (fun p => min p0.2 (min p1.2 p2.2) ≤ p.2 ∧ p.2 ≤ max p0.2 (max p1.2 p2.2)) (by omega) (by omega) (by omega)
  omega

/-! ## The spans of a fill (R110, R111) -/

/-- The column of the edge from `p` to `q` in row `y` (R110). -/
def edgeColumn (p q : Int × Int) (y : Int) : Int := p.1 + Int.tdiv ((q.1 - p.1) * (y - p.2)) (q.2 - p.2)

theorem edgeColumn_start (p q : Int × Int) : edgeColumn p q p.2 = p.1 := by
  rw [edgeColumn, Int.sub_self, Int.mul_zero, Int.zero_tdiv, Int.add_zero]

theorem edgeColumn_end {p q : Int × Int} (h : p.2 ≠ q.2) : edgeColumn p q q.2 = q.1 := by
  rw [edgeColumn, Int.mul_tdiv_cancel _ (sub_ne_zero.2 h.symm)]
  omega

/-- The short side of a fill: the edge p0-p1 above the split row, p1-p2 from it on (R110). -/
def shortSideColumn (p0 p1 p2 : Int × Int) (y : Int) : Int :=
  if y < p1.2 ∨ p1.2 = p2.2 then edgeColumn p0 p1 y else edgeColumn p1 p2 y

theorem closedSpan_eq (p0 p1 p2 : Int × Int) (y : Int) :
    closedSpan p0 p1 p2 y =
      (y, min (shortSideColumn p0 p1 p2 y) (edgeColumn p0 p2 y),
        max (shortSideColumn p0 p1 p2 y) (edgeColumn p0 p2 y)) :=
  rfl

/-- Both edges of the short side meet in the middle vertex (R110, R111). -/
theorem shortSideColumn_middle {p0 p1 p2 : Int × Int} (h : p0.2 ≠ p2.2) : shortSideColumn p0 p1 p2 p1.2 = p1.1 := by
  unfold shortSideColumn
  split
  · exact edgeColumn_end (by omega)
  · exact edgeColumn_start p1 p2

/-- A closed-form fill has a span in each row of its sorted vertices, in order (R111). -/
theorem closedSpans_rows (p0 p1 p2 : Int × Int) :
    (closedSpans p0 p1 p2).map Prod.fst = intRange p0.2 p2.2 := by
  unfold closedSpans
  split
  · next h => simp [← h, intRange]
  · rw [List.map_map]
    exact List.map_id _

/-- The span `sp` paints the pixel `p` (R108). -/
def Paints (sp : ScanSpan) (p : Int × Int) : Prop := sp.1 = p.2 ∧ sp.2.1 ≤ p.1 ∧ p.1 ≤ sp.2.2

theorem closedSpan_paints {p0 p1 p2 p : Int × Int}
    (h : shortSideColumn p0 p1 p2 p.2 = p.1 ∨ edgeColumn p0 p2 p.2 = p.1) : Paints (closedSpan p0 p1 p2 p.2) p := by
  rw [closedSpan_eq]
  refine ⟨rfl, ?_⟩
  dsimp only
  omega

/-- A closed-form fill paints its vertices: the long side ends in two of them, the short side turns in the third
(R111). -/
theorem closedSpans_paint {p0 p1 p2 p : Int × Int} (h01 : p0.2 ≤ p1.2) (h12 : p1.2 ≤ p2.2) (hp : p ∈ [p0, p1, p2]) :
    ∃ sp ∈ closedSpans p0 p1 p2, Paints sp p := by
  simp only [List.mem_cons, List.not_mem_nil, or_false] at hp
  by_cases h : p0.2 = p2.2
  · rw [closedSpans, if_pos h]
    have hrow : p0.2 = p.2 := by rcases hp with rfl | rfl | rfl <;> omega
    have hcolumns : min p0.1 (min p1.1 p2.1) ≤ p.1 ∧ p.1 ≤ max p0.1 (max p1.1 p2.1) := by
      rcases hp with rfl | rfl | rfl <;> omega
    exact ⟨_, List.mem_singleton_self _, hrow, hcolumns⟩
  · have hcolumn : shortSideColumn p0 p1 p2 p.2 = p.1 ∨ edgeColumn p0 p2 p.2 = p.1 := by
      rcases hp with rfl | rfl | rfl
      · exact .inr (edgeColumn_start _ _)
      · exact .inl (shortSideColumn_middle h)
      · exact .inr (edgeColumn_end h)
    have hrow : p.2 ∈ intRange p0.2 p2.2 := mem_intRange.2 (by rcases hp with rfl | rfl | rfl <;> omega)
    rw [closedSpans, if_neg h]
    exact ⟨_, List.mem_map_of_mem hrow, closedSpan_paints hcolumn⟩

/-- Settles O56: the fill is the closed form of the sorted vertices, whose first and last rows are the least and the
greatest, and no span leaves the columns of the vertices. -/
theorem triangleSpansCoverTheRows : Obligations.TriangleSpansCoverTheRows := by
  intro p0 p1 p2
  obtain ⟨hlo, hhi⟩ := sortY_rows p0 p1 p2
  obtain ⟨h01, h12⟩ := (sortY_spec p0 p1 p2).1
  refine ⟨?rows, fun sp hsp => ?columns, fun p hp => ?vertices⟩
  case rows => rw [triangleSpans_eq_closedSpans, closedSpans_rows, hlo, hhi]
  case columns =>
    refine (triangleSpans_inBox (ylo := min p0.2 (min p1.2 p2.2)) (yhi := max p0.2 (max p1.2 p2.2)) ?_ sp hsp).2
    simp only [List.forall_mem_cons, List.not_mem_nil, false_implies, implies_true, and_true]
    omega
  case vertices =>
    rw [triangleSpans_eq_closedSpans]
    exact closedSpans_paint h01 h12 (mem_sortY hp)

/-! ## `TRIF` (R113) -/

/-- `TRIF` is the spans of the closed form of its sorted vertices and the restore, or an error, as its row of R132
says. -/
theorem expandOf_trif (s : State) (w : Word) :
    let v := sortY (s.argInt 0, s.argInt 1) (s.argInt 2, s.argInt 3) (s.argInt 4, s.argInt 5)
    expandOf .trif (s.viewFor w) =
      if windowRow .trif s 0 then
        .items ((closedSpans v.1 v.2.1 v.2.2).flatMap (scanItems s s.args.a6) ++ restoreItems s) false none
      else .error .invalidWindow := by
  simp only [expandOf, expandTrif, verticesOnScreen, onScreen_viewFor, ← Bool.decide_and, and_assoc,
    triangleSpans_eq_closedSpans]
  rfl

/-- Settles O31: the check is the row of R132, and the accumulator loops paint the closed form. -/
theorem triangleFillIsOneSpanARow : Obligations.TriangleFillIsOneSpanARow := fun s hp =>
  startsOrRejects_of_expandOf hp (append_restoreItems_ne_nil s _) (expandOf_trif s _)

end Sys2Proof.Machine
end

section
/-! Proofs of family `45_text`, part 1: the digits of a number (R122). -/

namespace Sys2Proof.Machine

/-! ## One place of the loop (R122) -/

/-- A zero before the first shown digit and before the last place is a space (R122). -/
theorem digitCodesFrom_blank {v k : Nat} {shown : Bool} (h : v / 10 ^ k % 10 = 0 ∧ shown = false ∧ 0 < k) :
    digitCodesFrom v (k + 1) shown = 0x20 :: digitCodesFrom v k false := if_pos h

/-- Every other place shows its digit, and so do the places after it (R122). -/
theorem digitCodesFrom_digit {v k : Nat} {shown : Bool} (h : ¬(v / 10 ^ k % 10 = 0 ∧ shown = false ∧ 0 < k)) :
    digitCodesFrom v (k + 1) shown = (0x30 + v / 10 ^ k % 10) :: digitCodesFrom v k true := if_neg h

/-- A space counts as the zero it stands for, so the codes show the value of their places (R122). -/
theorem shownValue_digitCodesFrom (v n : Nat) (shown : Bool) : shownValue (digitCodesFrom v n shown) = v % 10 ^ n := by
  induction n generalizing shown with
  | zero => simp [digitCodesFrom, shownValue, Nat.mod_one]
  | succ n ih =>
    rw [Nat.pow_succ, Nat.mod_mul]
    by_cases h : v / 10 ^ n % 10 = 0 ∧ shown = false ∧ 0 < n
    · rw [digitCodesFrom_blank h, shownValue, ih, h.1]
      simp
    · rw [digitCodesFrom_digit h, shownValue, ih, digitCodesFrom_length, Nat.add_sub_cancel_left, Nat.mul_comm,
        Nat.add_comm]

/-- `c` is the code of a decimal digit. -/
def IsDigitCode (c : Nat) : Prop := 0x30 ≤ c ∧ c ≤ 0x39

theorem isDigitCode_digit (d : Nat) : IsDigitCode (0x30 + d % 10) := by
  unfold IsDigitCode
  omega

/-- After a shown digit there are no spaces (R122). -/
theorem digitCodesFrom_true_digits (v n : Nat) : ∀ c ∈ digitCodesFrom v n true, IsDigitCode c := by
  induction n with
  | zero => exact fun c hc => nomatch hc
  | succ n ih =>
    rw [digitCodesFrom_digit (by simp)]
    exact List.forall_mem_cons.2 ⟨isDigitCode_digit _, ih⟩

/-- The places are spaces and then digits; the digits begin with a zero only in the last place (R122). -/
theorem digitCodesFrom_spaces_digits (v n : Nat) :
    ∃ k ds, digitCodesFrom v (n + 1) false = List.replicate k 0x20 ++ ds ∧ ds ≠ [] ∧ (∀ c ∈ ds, IsDigitCode c) ∧
      (ds.head? = some 0x30 → k = n) := by
  induction n with
  | zero =>
    rw [digitCodesFrom_digit (by simp)]
    exact ⟨0, _, rfl, List.cons_ne_nil _ _,
      List.forall_mem_cons.2 ⟨isDigitCode_digit _, digitCodesFrom_true_digits v 0⟩, fun _ => rfl⟩
  | succ n ih =>
    by_cases h : v / 10 ^ (n + 1) % 10 = 0
    · obtain ⟨k, ds, hcodes, hne, hdigits, hhead⟩ := ih
      rw [digitCodesFrom_blank ⟨h, rfl, n.succ_pos⟩, hcodes]
      exact ⟨k + 1, ds, rfl, hne, hdigits, fun h0 => congrArg (· + 1) (hhead h0)⟩
    · rw [digitCodesFrom_digit fun h' => h h'.1]
      refine ⟨0, _, rfl, List.cons_ne_nil _ _,
        List.forall_mem_cons.2 ⟨isDigitCode_digit _, digitCodesFrom_true_digits v _⟩, fun h0 => ?_⟩
      exact absurd (Nat.add_eq_left.1 (Option.some.inj h0)) h

/-- Settles O36: the length, the value and the shape of the loop's codes. -/
theorem digitsShowTheValue : Obligations.DigitsShowTheValue := by
  intro v n hn
  obtain ⟨m, rfl⟩ := Nat.exists_eq_add_of_le' hn
  exact ⟨digitCodes_length v _, shownValue_digitCodesFrom v _ false, digitCodesFrom_spaces_digits v m⟩

end Sys2Proof.Machine
end

section
/-! Proofs of family `45_text`, part 2: what `TEXTCHAR`, `TEXTSTR`, `TEXTCTR` and `NUMERIC` start the engine on (R114 to
R123), and their checks in the order of R133. -/

namespace Sys2Proof.Machine

/-! ## Glyphs and runs of glyphs (R115, R116) -/

/-- One glyph in either mode (R115, R116). -/
def glyphItems (s : State) (ov : Bool) (fg bg : Half) (size : Nat) (x y : Int) (code : Nat) : List Item :=
  if ov then overlayItems s fg size x y code else cellItems s fg bg size x y code

/-- Only the elements that pass a filter contribute to a `flatMap` over it. -/
theorem flatMap_filter {α β : Type} (p : α → Bool) (f : α → List β) (l : List α) :
    (l.filter p).flatMap f = l.flatMap fun a => if p a then f a else [] := by
  induction l with
  | nil => rfl
  | cons a l ih =>
    rw [List.filter_cons, List.flatMap_cons, ← ih]
    split <;> rfl

/-- The glyph of a command accepted now, with the registers and the ROM of this moment (R115, R116). -/
theorem glyph_viewFor (s : State) (w : Word) (x y : Int) (fg bg : Half) (code size : Nat) (ov : Bool) :
    glyph (s.viewFor w).latch.cfg (s.viewFor w).rom x y fg bg code size ov = glyphItems s ov fg bg size x y code := by
  cases ov with
  | false =>
    simp only [glyph, glyphCells, List.map_flatMap, List.map_map]
    rfl
  | true =>
    simp only [glyph, glyphCells, plots, List.flatMap_map, flatMap_filter, List.flatMap_assoc]
    rfl

/-- Glyph `k` of a run is at `x + k * GW` (R120, R121, R123), whatever the number of the first. -/
theorem glyphRun_viewFor_zipIdx (s : State) (w : Word) (x y : Int) (fg bg : Half) (size : Nat) (ov : Bool)
    (codes : List Nat) (k : Nat) :
    glyphRun (s.viewFor w).latch.cfg (s.viewFor w).rom y fg bg size ov (x + (k * (size / 2) : Nat)) codes =
      (codes.zipIdx k).flatMap fun p => glyphItems s ov fg bg size (x + (p.2 * (size / 2) : Nat)) y p.1 := by
  induction codes generalizing k with
  | nil => rfl
  | cons code codes ih =>
    have hnext : x + (k * (size / 2) : Nat) + (glyphWidth size : Int) = x + ((k + 1) * (size / 2) : Nat) := by
      rw [glyphWidth, Nat.add_one_mul]
      omega
    rw [glyphRun, glyph_viewFor, hnext, ih, List.zipIdx_cons, List.flatMap_cons]

/-- The run of a command accepted now (R120, R121, R123). -/
theorem glyphRun_viewFor (s : State) (w : Word) (x y : Int) (fg bg : Half) (size : Nat) (ov : Bool)
    (codes : List Nat) :
    glyphRun (s.viewFor w).latch.cfg (s.viewFor w).rom y fg bg size ov x codes =
      runItems s ov fg bg size x y codes := by
  have h := glyphRun_viewFor_zipIdx s w x y fg bg size ov codes 0
  rwa [Nat.zero_mul, Int.natCast_zero, Int.add_zero] at h

/-! ## Bodies that emit something (R117) -/

/-- A list of items that is not empty begins with a transaction. -/
def StartsWithTx (its : List Item) : Prop := its ≠ [] → ∃ t rest, its = .tx t :: rest

theorem StartsWithTx.append {a b : List Item} (ha : StartsWithTx a) (hb : StartsWithTx b) : StartsWithTx (a ++ b) := by
  intro hne
  rcases a with _ | ⟨it, a⟩
  · exact hb hne
  · obtain ⟨t, rest, h⟩ := ha (List.cons_ne_nil _ _)
    exact ⟨t, rest ++ b, by rw [h, List.cons_append]⟩

theorem StartsWithTx.flatMap {α : Type} {f : α → List Item} (h : ∀ x, StartsWithTx (f x)) (l : List α) :
    StartsWithTx (l.flatMap f) := by
  induction l with
  | nil => exact fun hne => absurd rfl hne
  | cons x l ih => exact (h x).append ih

theorem glyphItems_startsWithTx (s : State) (ov : Bool) (fg bg : Half) (size : Nat) (x y : Int) (code : Nat) :
    StartsWithTx (glyphItems s ov fg bg size x y code) := by
  cases ov with
  | false => exact fun _ => ⟨_, _, rfl⟩
  | true =>
    refine .flatMap (fun r => .flatMap (fun col => ?_) _) _
    split
    · exact fun _ => ⟨_, _, rfl⟩
    · exact fun hne => absurd rfl hne

theorem runItems_startsWithTx (s : State) (ov : Bool) (fg bg : Half) (size : Nat) (x y : Int) (codes : List Nat) :
    StartsWithTx (runItems s ov fg bg size x y codes) :=
  .flatMap (fun _ => glyphItems_startsWithTx s ov fg bg size _ y _) _

/-! ## The outcome of a text command (R117, R133, R134) -/

section
variable {i : Instr} {s : State} {body : List Item}

/-- A command whose expansion is empty completes at once (R35). -/
theorem completesAtOnce_of_expandOf (hp : s.phase = .idle)
    (he : expandOf i (s.viewFor (encode i)) = .items [] false none) : CompletesAtOnce i s := by
  refine ⟨_, exec_eq_issue i s, State.issue_acceptFrame hp _ _, State.issue_acceptRecord hp _ _, ?_⟩
  rw [State.issue_idle hp, he]
  exact ⟨rfl, rfl, hp, rfl, rfl⟩

/-- The restore follows exactly a body that is not empty (R117). -/
theorem finishes_of_expandOf (hp : s.phase = .idle) (hbody : StartsWithTx body)
    (he : expandOf i (s.viewFor (encode i)) = finish (s.viewFor (encode i)).latch.cfg body) : Finishes i s body := by
  refine ⟨fun hne => ?_, fun hnil => ?_⟩
  · obtain ⟨t, rest, rfl⟩ := hbody hne
    exact startsWith_of_expandOf hp he (append_restoreItems_ne_nil s _)
  · rw [hnil] at he
    exact completesAtOnce_of_expandOf hp he

/-- The window check is the last of a text command's checks (R133). -/
theorem rejectsOrFinishes_of_expandOf {row : Bool} {c : ErrCode} (hp : s.phase = .idle) (hbody : StartsWithTx body)
    (he : expandOf i (s.viewFor (encode i)) =
      if row = false then .error c else finish (s.viewFor (encode i)).latch.cfg body) :
    (row = false → RejectedWith i s c) ∧ (row = true → Finishes i s body) :=
  ⟨fun hrow => rejectedWith_of_expandOf hp (he.trans (if_pos hrow)),
    fun hrow => finishes_of_expandOf hp hbody (he.trans (if_neg ((Bool.not_eq_false _).mpr hrow)))⟩

/-- The three checks of a string command, the no-op before the window check (R133). -/
theorem stringOutcome_of_expandOf {sizeOk : Prop} [Decidable sizeOk] {codes : List Nat} {row : Bool}
    (hp : s.phase = .idle) (hbody : StartsWithTx body)
    (he : expandOf i (s.viewFor (encode i)) =
      if ¬sizeOk then .error .unsupportedGlyphSize
      else if codes = [] then .items [] false none
      else if row = false then .error .invalidWindow
      else finish (s.viewFor (encode i)).latch.cfg body) :
    (¬sizeOk → RejectedWith i s .unsupportedGlyphSize) ∧ (sizeOk → codes = [] → CompletesAtOnce i s) ∧
      (sizeOk → codes ≠ [] → (row = false → RejectedWith i s .invalidWindow) ∧ (row = true → Finishes i s body)) := by
  have hsized (hs : sizeOk) := he.trans (if_neg (not_not_intro hs))
  exact ⟨fun hs => rejectedWith_of_expandOf hp (he.trans (if_pos hs)),
    fun hs hnil => completesAtOnce_of_expandOf hp ((hsized hs).trans (if_pos hnil)),
    fun hs hne => rejectsOrFinishes_of_expandOf hp hbody ((hsized hs).trans (if_neg hne))⟩

end

/-! ## The checks and the operands (R114, R118, R132) -/

theorem glyphSizeOk_eq (size : Nat) : glyphSizeOk size = decide (size = 12 ∨ size = 16) := (Bool.decide_or _ _).symm

/-- A run is checked by the row of R132 against the dimensions of this moment. -/
theorem runFits_viewFor (s : State) (w : Word) (ov : Bool) (n : Nat) :
    let l := (s.viewFor w).latch
    runFits l.cfg (l.int 0) (l.int 1) n (l.nat 5) = windowRow (.textstr ov) s n := (Bool.decide_and _ _).symm

/-- A field of digits has the row of a string of as many printable bytes (R132). -/
theorem windowRow_numeric (s : State) (ov : Bool) (n : Int) :
    windowRow (.numeric ov) s n = windowRow (.textstr ov) s n := rfl

/-- One character has the row of a string of one printable byte (R132). -/
theorem windowRow_textchar (s : State) (ov : Bool) :
    windowRow (.textchar ov) s 1 = windowRow (.textstr ov) s (1 : Nat) := by
  simp only [windowRow, Nat.cast_one, one_mul]

/-- The string that a command renders is in the memory of this moment (R46, R118). -/
theorem printableBytes_viewFor (s : State) (w : Word) :
    let v := s.viewFor w
    printableBytes v.mem v.latch.wide.toNat (v.latch.nat 4) = stringCodes s :=
  printableBytes_eq_printableAt _ _ _

/-! ## `TEXTCHAR` (R119) -/

/-- `TEXTCHAR` is one glyph, after its checks in the order of R133 (R119). -/
theorem expandOf_textchar (s : State) (w : Word) (ov : Bool) :
    expandOf (.textchar ov) (s.viewFor w) =
      if ¬(s.args.a5.toNat = 12 ∨ s.args.a5.toNat = 16) then .error .unsupportedGlyphSize
      else if ¬(0x20 ≤ s.args.a4.toNat ∧ s.args.a4.toNat ≤ 0x7E) then .error .invalidArgument
      else if windowRow (.textchar ov) s 1 = false then .error .invalidWindow
      else finish (s.viewFor w).latch.cfg
        (glyphItems s ov s.args.a2 s.args.a3 s.args.a5.toNat (s.argInt 0) (s.argInt 1) s.args.a4.toNat) := by
  simp only [expandOf, expandTextchar, glyphSizeOk_eq, printable_eq, runFits_viewFor s w ov, windowRow_textchar,
    glyph_viewFor, Bool.not_eq_true', decide_eq_false_iff_not]
  rfl

/-- Settles O32: the checks in the order of R133, and a glyph that is blank in overlay mode completes at once. -/
theorem textcharRendersOneGlyph : Obligations.TextcharRendersOneGlyph := by
  intro s ov hp size code
  have he := expandOf_textchar s (encode (.textchar ov)) ov
  have hsized (hs : size = 12 ∨ size = 16) := he.trans (if_neg (not_not_intro hs))
  exact ⟨fun hs => rejectedWith_of_expandOf hp (he.trans (if_pos hs)),
    fun hs hc => rejectedWith_of_expandOf hp ((hsized hs).trans (if_pos hc)),
    fun hs hc => rejectsOrFinishes_of_expandOf hp (glyphItems_startsWithTx s ov _ _ _ _ _ _)
      ((hsized hs).trans (if_neg (not_not_intro hc)))⟩

/-! ## `TEXTSTR` (R120) -/

/-- `TEXTSTR` is the run of its printable bytes, after its checks in the order of R133 (R120). -/
theorem expandOf_textstr (s : State) (w : Word) (ov : Bool) :
    expandOf (.textstr ov) (s.viewFor w) =
      if ¬(s.args.a5.toNat = 12 ∨ s.args.a5.toNat = 16) then .error .unsupportedGlyphSize
      else if stringCodes s = [] then .items [] false none
      else if windowRow (.textstr ov) s (stringCodes s).length = false then .error .invalidWindow
      else finish (s.viewFor w).latch.cfg
        (runItems s ov s.args.a2 s.args.a3 s.args.a5.toNat (s.argInt 0) (s.argInt 1) (stringCodes s)) := by
  simp only [expandOf, expandTextstr, glyphSizeOk_eq, printableBytes_viewFor, List.isEmpty_iff,
    runFits_viewFor s w ov, glyphRun_viewFor, Bool.not_eq_true', decide_eq_false_iff_not]
  rfl

/-- Settles O33: the three checks of a string, and its run of glyphs from `x`. -/
theorem textstrRendersPrintableBytes : Obligations.TextstrRendersPrintableBytes := fun s ov hp =>
  stringOutcome_of_expandOf hp (runItems_startsWithTx s ov _ _ _ _ _ _) (expandOf_textstr s _ ov)

/-! ## `TEXTCTR` (R121) -/

/-- A run that is too wide or too high fails the row of R132. -/
theorem windowRow_textctr_eq_false (s : State) (ov : Bool) (n : Int) :
    windowRow (.textctr ov) s n = false ↔
      n * gw (s.argInt 5) > (s.width.toNat : Int) ∨ s.argInt 5 > (s.height.toNat : Int) := by
  simp only [windowRow, decide_eq_false_iff_not, not_and_or, not_le, gt_iff_lt]

/-- `TEXTCTR` is the run of its printable bytes from the middle of the screen, after its checks in the order of R133
(R121). -/
theorem expandOf_textctr (s : State) (w : Word) (ov : Bool) :
    expandOf (.textctr ov) (s.viewFor w) =
      if ¬(s.args.a5.toNat = 12 ∨ s.args.a5.toNat = 16) then .error .unsupportedGlyphSize
      else if stringCodes s = [] then .items [] false none
      else if windowRow (.textctr ov) s (stringCodes s).length = false then .error .invalidWindow
      else finish (s.viewFor w).latch.cfg
        (runItems s ov s.args.a2 s.args.a3 s.args.a5.toNat
          (((s.width.toNat : Int) - (stringCodes s).length * gw (s.argInt 5)) / 2)
          (((s.height.toNat : Int) - s.argInt 5) / 2) (stringCodes s)) := by
  simp only [expandOf, expandTextctr, glyphSizeOk_eq, printableBytes_viewFor, List.isEmpty_iff,
    windowRow_textctr_eq_false, glyphRun_viewFor, Bool.not_eq_true', decide_eq_false_iff_not]
  rfl

/-- The margin before a centred part, the odd unit after it (R121). -/
theorem centre_eq {part total : Nat} (h : part ≤ total) :
    ((total : Int) - part) / 2 = ((total - part) / 2 : Nat) := by omega

/-- Settles O34: the three checks of a string; where its row of R132 holds, the margins are not negative. -/
theorem textctrCentresPrintableBytes : Obligations.TextctrCentresPrintableBytes := by
  intro s ov hp size codes n
  obtain ⟨hsize, hempty, hdraws⟩ :=
    stringOutcome_of_expandOf hp (runItems_startsWithTx s ov _ _ _ _ _ _) (expandOf_textctr s _ ov)
  refine ⟨hsize, hempty, fun hs hne => ⟨(hdraws hs hne).1, fun hrow => ?_⟩⟩
  obtain ⟨hwide, hhigh⟩ := of_decide_eq_true hrow
  have hwide : n ≤ s.width.toNat := Int.ofNat_le.1 hwide
  have hhigh : size ≤ s.height.toNat := Int.ofNat_le.1 hhigh
  rw [← centre_eq hwide, ← centre_eq hhigh]
  exact (hdraws hs hne).2 hrow

/-! ## `NUMERIC` (R123) -/

/-- `NUMERIC` is the run of its digits, after its checks in the order of R133 (R123). -/
theorem expandOf_numeric (s : State) (w : Word) (ov : Bool) :
    expandOf (.numeric ov) (s.viewFor w) =
      if s.args.a4.toNat = 0 then .items [] false none
      else if ¬(s.args.a5.toNat = 12 ∨ s.args.a5.toNat = 16) then .error .unsupportedGlyphSize
      else if windowRow (.numeric ov) s s.args.a4.toNat = false then .error .invalidWindow
      else finish (s.viewFor w).latch.cfg
        (runItems s ov s.args.a2 s.args.a3 s.args.a5.toNat (s.argInt 0) (s.argInt 1)
          (digitCodes s.argWide s.args.a4.toNat)) := by
  simp only [expandOf, expandNumeric, glyphSizeOk_eq, runFits_viewFor s w ov, windowRow_numeric, Latch.wide_toNat,
    glyphRun_viewFor, Bool.not_eq_true', decide_eq_false_iff_not]
  rfl

/-- Settles O35: the no-op before every check, and the run of the digits of `{A7, A6}`. -/
theorem numericRendersAFixedField : Obligations.NumericRendersAFixedField := by
  intro s ov hp size n
  have he := expandOf_numeric s (encode (.numeric ov)) ov
  have hdigits (h0 : n ≠ 0) := he.trans (if_neg h0)
  exact ⟨fun h0 => completesAtOnce_of_expandOf hp (he.trans (if_pos h0)),
    fun h0 hs => rejectedWith_of_expandOf hp ((hdigits h0).trans (if_pos hs)),
    fun h0 hs => rejectsOrFinishes_of_expandOf hp (runItems_startsWithTx s ov _ _ _ _ _ _)
      ((hdigits h0).trans (if_neg (not_not_intro hs)))⟩

end Sys2Proof.Machine
end

section
/-! Proofs of family `47_control`: `NOP` (R126) and `SETORIENT` (R127). -/

namespace Sys2Proof.Machine

/-! ## `NOP` (R126) -/

/-- Settles O20: `NOP` has the empty expansion, and the two illegal words set flags its row of R74 does not take. -/
theorem nopCompletes : Obligations.NopCompletes :=
  ⟨fun _ hp => completesAtOnce_of_expandOf hp rfl, rfl,
    (decode?_eq_none_iff _).2 (.inr (.inr (.inl (by decide)))),
    (decode?_eq_none_iff _).2 (.inr (.inr (.inr (by decide))))⟩

/-! ## `SETORIENT` (R127) -/

/-- The memory-access-control byte the configuration holds for the direction `d` (R127). -/
def State.madctlByte (s : State) (d : Nat) : Byte := [s.madctl0, s.madctl1, s.madctl2, s.madctl3].getD d 0#8

/-- What `SETORIENT` starts on: the window is unknown from here, then the two transactions, and the new orientation
after both (R127). -/
def setorientItems (s : State) : List Item :=
  [.mark .winInvalid, .tx ⟨.command, [s.opcMadctl]⟩, .tx ⟨.data, [s.madctlByte s.args.a0.toNat]⟩,
    .mark (.setOrient (s.args.a0.setWidth 2))]

/-- The latched table agrees with the registers on the four directions. -/
theorem madctl_viewFor (s : State) (w : Word) {d : Nat} (hd : d ≤ 3) :
    (s.viewFor w).latch.cfg.madctl (BitVec.ofNat 2 d) = s.madctlByte d := by
  match d, hd with
  | 0, _ | 1, _ | 2, _ | 3, _ => rfl

/-- The direction of `SETORIENT` is its operand, or its one check fails (R127, R134). -/
theorem expandOf_setorient (s : State) (w : Word) :
    expandOf .setorient (s.viewFor w) =
      if decide (s.args.a0.toNat ≤ 3) then .items (setorientItems s) false none else .error .invalidArgument := by
  have hdir : (s.viewFor w).latch.nat 0 = s.args.a0.toNat := rfl
  simp only [expandOf, expandSetorient, hdir, decide_eq_true_eq]
  by_cases hle : s.args.a0.toNat ≤ 3
  · rw [if_pos hle, if_neg (Nat.not_lt.mpr hle), madctl_viewFor s w hle]
    rfl
  · rw [if_neg hle, if_pos (Nat.not_le.mp hle)]

/-- A `SETORIENT` that starts and has every transaction answered `Ok` ends with the display turned, the window shadow
unknown and both transactions sent (R127). -/
theorem runSteps_setorient {s t : State} (hp : s.phase = .idle) (hs : s.stalled = false) (hd : s.args.a0.toNat ≤ 3)
    (he : exec .setorient s = .next t) (ha : t.agenda = List.replicate 4 (.engine .ok)) :
    ∃ u, runSteps 4 t = .next u ∧ u.orient.toNat = s.args.a0.toNat ∧ u.winv = false ∧ u.err = .none ∧
      u.phase = .idle ∧
      u.trace = s.trace ++
        [.carried ⟨.command, [s.opcMadctl]⟩, .carried ⟨.data, [s.madctlByte s.args.a0.toNat]⟩] := by
  have hexp : expandOf .setorient (s.viewFor (encode .setorient)) = .items (setorientItems s) false none :=
    (expandOf_setorient s _).trans (if_pos (decide_eq_true hd))
  rw [exec_eq_issue, State.issue_idle hp, hexp] at he
  cases he
  have hrun := runSteps_finished (s := (s.beginCommand (encode .setorient)).startExpansion
    (.items (setorientItems s) false none)) (rest := []) rfl rfl hs ha
  refine ⟨_, hrun, ?_, rfl, rfl, rfl, List.append_assoc s.trace [_] [_]⟩
  have hturned : (s.args.a0.setWidth 2).toNat = s.args.a0.toNat := by
    rw [BitVec.toNat_setWidth, Nat.mod_eq_of_lt (Nat.lt_succ_of_le hd)]
  exact hturned

/-- Settles O23: the check on the direction decides between the rejection and the four items, and those are run. -/
theorem setorientTurnsTheDisplay : Obligations.SetorientTurnsTheDisplay := by
  intro s hp hs
  obtain ⟨hstarts, hrejects⟩ := startsOrRejects_of_expandOf hp (List.cons_ne_nil _ _) (expandOf_setorient s _)
  exact ⟨fun hd => hrejects (decide_eq_false (Nat.not_le.mpr hd)),
    fun hd => ⟨_, rfl, hstarts (decide_eq_true hd), fun _ he ha => runSteps_setorient hp hs hd he ha⟩⟩

end Sys2Proof.Machine
end
